-- ==== Sys2Proof/Word.lean ====
section
/-! DEFINITION. The two words of the part: the byte of a station link and the conveyor position. -/

namespace Sys2Proof

/-- One byte on a station link (R171), or a set sent as a bit mask (R194). -/
abbrev Byte := BitVec 8

/-- A conveyor position: a 16-bit modular count of pitches (00_scope.md, Position arithmetic; R2, R4). -/
abbrev Pos := BitVec 16

end Sys2Proof
end

