-- ==== Sys2Proof/Config.lean ====
section
/-! DEFINITION. What a site configures (the settings of the store image, R185), the records that requests carry, and the
names the whole part shares. One free value stands here, the image's check value, whose formula the spec does not give. -/

namespace Sys2Proof

/-! ## Names -/

/-- The sixteen status codes, in the order of the status table (10_station_links_and_access.md; R193 numbers them 0 to 15). -/
inductive Status where
  | ok | denied | state | busy | unknown | invalid | queueFull | laneFull | unavailable | expired | notOwner | locked
  | needOther | notReady | bankBusy | empty
  deriving DecidableEq, Repr

/-- The four permissions, in the bit order of R194. -/
inductive Permission where
  | operate | restart | closeout | configure
  deriving DecidableEq, Repr

/-- The eight notice types, in the order of R193. -/
inductive NoticeType where
  | halt | restart | ticket | stall | availability | journal | arch | rehearsal
  deriving DecidableEq, Repr

/-- The kinds of arch (03_arch_channels.md, The arch record). -/
inductive ArchKind where
  | lift | reachLeft | reachRight | spray | unused
  deriving DecidableEq, Repr

/-- What a load trip does to the tunnel (03_arch_channels.md, The arch record). -/
inductive TripPolicy where
  | halt | skipCar
  deriving DecidableEq, Repr

/-- The kinds of discount slot (R103). -/
inductive DiscountKind where
  | none | amount | percent
  deriving DecidableEq, Repr

/-- How a sale was paid (R114). -/
inductive Tender where
  | cash | card | account
  deriving DecidableEq, Repr

/-! ## Records of the settings image (R185) -/

/-- One profile sample, in millimetres (R21, R23). -/
structure Sample where
  top : Nat
  left : Nat
  right : Nat
  deriving DecidableEq, Repr

/-- An entry of a services list: a service 0 to 15 and its press in millimetres, 0 to 150 (R100, R112). -/
structure ServicePress where
  service : Nat
  press : Nat
  deriving DecidableEq, Repr

/-- A plan record (06_plans_prices_and_tickets.md, Plans). As an operand of EDIT_PLAN its name is the raw name field of the
frame (R194) and its numbers are unchecked; as a setting it has passed R100. -/
structure Plan where
  name : List Byte
  enabled : Bool
  region : Nat
  price : Nat
  maxClass : Nat
  services : List ServicePress
  allowed : Byte
  deriving DecidableEq, Repr

/-- An extra record (06_plans_prices_and_tickets.md, Extras). -/
structure Extra where
  name : List Byte
  enabled : Bool
  price : Nat
  services : List ServicePress
  deriving DecidableEq, Repr

/-- A discount slot (R103). -/
structure Discount where
  kind : DiscountKind
  value : Nat
  regions : Byte
  deriving DecidableEq, Repr

/-- A discount slot as EDIT_DISCOUNT carries it: the kind is still a code (R195). -/
structure DiscountArg where
  kind : Nat
  value : Nat
  regions : Byte
  deriving DecidableEq, Repr

/-- An entry of the access table (10_station_links_and_access.md, The access table). -/
structure Access where
  lane : Option Nat
  sell : Byte
  edit : Byte
  permissions : Byte
  subscriptions : Byte
  deriving DecidableEq, Repr

/-- An arch's layout record (03_arch_channels.md, The arch record). -/
structure Layout where
  kind : ArchKind
  service : Nat
  offset : Nat
  lead : Nat
  trail : Nat
  lookAhead : Nat
  minimum : Nat
  maximum : Nat
  slew : Nat
  margin : Nat
  tripThreshold : Nat
  policy : TripPolicy
  initiallyOut : Bool
  deriving DecidableEq, Repr

/-- A layout record as SET_ARCH carries it: kind, policy and initial service are still codes (R195). -/
structure LayoutArg where
  kind : Nat
  service : Nat
  offset : Nat
  lead : Nat
  trail : Nat
  lookAhead : Nat
  minimum : Nat
  maximum : Nat
  slew : Nat
  margin : Nat
  tripThreshold : Nat
  policy : Nat
  initial : Nat
  deriving DecidableEq, Repr

/-- The site parameters (11_settings_store_and_start_up.md, Site parameters). Distances are pitches, times are seconds. -/
structure Site where
  gaugeOffset : Nat
  exitOffset : Nat
  exitTolerance : Nat
  gap : Nat
  rollback : Nat
  speeds : Vector Nat 4
  cap : Nat
  presence : Nat
  quoteHold : Nat
  callTimeout : Nat
  returnTimeout : Nat
  stallTime : Nat
  stackLimits : Vector Nat 3
  fallback : Option Nat
  deriving DecidableEq, Repr

/-- The settings of the store image, and the running copy the part works from (R185). -/
structure Settings where
  services : Vector (List Byte) 16
  plans : Vector Plan 24
  extras : Vector Extra 8
  discounts : Vector Discount 8
  access : Vector Access 4
  layouts : Vector Layout 12
  /-- The linearization tables of the top, left and right gauges (R16). -/
  gauges : Vector (Vector Nat 256) 3
  site : Site
  /-- Test profiles 0 and 1, each unset or a list of 2 to 96 samples (02_the_profile_station.md, Test profiles). -/
  testProfiles : Vector (Option (List Sample)) 2
  deriving DecidableEq, Repr

/-- The 16-bit check value over all the settings of an image (R185). A FREE VALUE: the spec gives no formula for it, and nothing
constrains it (log entry 4). -/
opaque imageCheck : Settings → BitVec 16

/-! ## What a line event carries -/

/-- A frame's kind byte and body (10_station_links_and_access.md, Frames). -/
structure Frame where
  kind : Byte
  body : List Byte
  deriving DecidableEq, Repr

/-- The raw codes that stand on the three gauges at an encoder change; 0 is no return (R16). -/
structure GaugeCodes where
  top : Byte
  left : Byte
  right : Byte
  deriving DecidableEq, Repr

/-- The blocks that act on one forward pitch (R3), and the Tunnel Supervisor taking the causes raised so far (R63). -/
inductive PitchBlock where
  | station
  | arch (a : Fin 12)
  | entryExit
  | supervisor
  deriving DecidableEq, Repr

/-- The line levels that a reset reads (R15, R54, R98, R143, R180). -/
structure LineLevels where
  phase : Fin 4
  entryClosed : Bool
  exitClosed : Bool
  loops : Vector Bool 3
  homeClosed : Vector Bool 12
  estop : Bool
  strap : Bool
  deriving DecidableEq, Repr

/-- The two treadles. -/
inductive Treadle where
  | entry | exit
  deriving DecidableEq, Repr

end Sys2Proof
end

