-- ==== Sys2Proof/Syntax.lean ====
section
/-! DEFINITION. The commands of the part: one constructor for each row of spec/opcode_table.json, in its order. -/

namespace Sys2Proof

/-- The commands. A request names the link it comes from and carries the values of its frame's body as R195 lays them out: a
number is the unchecked number of its field, an optional value is `none` where the body holds the code of an absent value
(R194), and an enumerated value is its code (R195). A line event carries what stands on the lines, a timer expiry the timer
concerned. -/
inductive Instr where
  /-- QUOTE (R111). -/
  | quote (link : Fin 4) (plan : Nat) (extras : List Nat) (slot : Option Nat) (lane : Option Nat)
  /-- CONFIRM (R115). -/
  | confirm (link : Fin 4) (ticket : Nat) (tender : Nat)
  /-- CANCEL (R116). -/
  | cancel (link : Fin 4) (ticket : Nat)
  /-- VOID (R117). -/
  | voidTicket (link : Fin 4) (ticket : Nat)
  /-- REQUEUE (R118). -/
  | requeue (link : Fin 4) (ticket : Nat)
  /-- QUERY_TICKETS (R121). -/
  | queryTickets (link : Fin 4) (ticket : Option Nat) (first : Nat)
  /-- HALT (R129). -/
  | halt (link : Fin 4)
  /-- PULL_CAR (R139). -/
  | pullCar (link : Fin 4) (car : Nat)
  /-- OPEN_TUNNEL (R125). -/
  | openTunnel (link : Fin 4)
  /-- CLOSE_TUNNEL (R126). -/
  | closeTunnel (link : Fin 4)
  /-- RESTART (R135, R136). -/
  | restart (link : Fin 4)
  /-- CLEAR_TUNNEL (R140). -/
  | clearTunnel (link : Fin 4)
  /-- QUERY_TUNNEL (R97). -/
  | queryTunnel (link : Fin 4) (car : Option Nat) (first : Option Nat)
  /-- QUERY_HALT (R142). -/
  | queryHalt (link : Fin 4) (part : Nat)
  /-- SET_ARCH_SERVICE (R49). -/
  | setArchService (link : Fin 4) (arch : Nat) (setting : Nat)
  /-- CLEAR_JAM (R51). -/
  | clearJam (link : Fin 4) (arch : Nat)
  /-- QUERY_ARCH (R53). -/
  | queryArch (link : Fin 4) (arch : Nat) (first : Option Nat)
  /-- EDIT_PLAN (R100, R101). -/
  | editPlan (link : Fin 4) (plan : Nat) (record : Plan)
  /-- EDIT_EXTRA (R102). -/
  | editExtra (link : Fin 4) (extra : Nat) (record : Extra)
  /-- EDIT_DISCOUNT (R103). -/
  | editDiscount (link : Fin 4) (slot : Nat) (record : DiscountArg)
  /-- EDIT_SERVICE (R99). -/
  | editService (link : Fin 4) (service : Nat) (name : List Byte)
  /-- LOCK_RANGE (R181). -/
  | lockRange (link : Fin 4) (first : Nat) (last : Nat)
  /-- QUERY_CATALOG (R122). -/
  | queryCatalog (link : Fin 4) (kind : Nat) (number : Nat)
  /-- SET_ARCH (R33, R35). -/
  | setArch (link : Fin 4) (arch : Nat) (record : LayoutArg)
  /-- SET_GAUGE (R17); the count is the length of the values. -/
  | setGauge (link : Fin 4) (gauge : Nat) (first : Nat) (values : List Nat)
  /-- SET_SITE (R186). -/
  | setSite (link : Fin 4) (site : Site)
  /-- SET_TEST_PROFILE (R29, R30); the count is the length of the samples. -/
  | setTestProfile (link : Fin 4) (profile : Nat) (length : Nat) (first : Nat) (samples : List Sample)
  /-- SET_ACCESS (R179). -/
  | setAccess (link : Fin 4) (target : Nat) (entry : Access)
  /-- SAVE_STORE (R188). -/
  | saveStore (link : Fin 4)
  /-- QUERY_STATUS (R192). -/
  | queryStatus (link : Fin 4) (part : Nat)
  /-- CLOSEOUT (R155, R156). -/
  | closeout (link : Fin 4)
  /-- READ_JOURNAL (R158). -/
  | readJournal (link : Fin 4) (bank : Nat) (first : Option Nat)
  /-- RELEASE_BANK (R159). -/
  | releaseBank (link : Fin 4) (bank : Nat)
  /-- REHEARSE (R163, R164). -/
  | rehearse (link : Fin 4) (profile : Nat) (plan : Nat) (traced : Option Nat)
  /-- READ_TRACE (R167). -/
  | readTrace (link : Fin 4) (first : Option Nat)
  /-- SUBSCRIBE (R177). -/
  | subscribe (link : Fin 4) (set : Byte)
  /-- UNKNOWN_KIND_REQUEST (R174): a frame whose kind byte is no request's. -/
  | unknownKindRequest (link : Fin 4) (kind : Byte) (body : List Byte)
  /-- RECEIVE_BYTE (R171). -/
  | receiveByte (link : Fin 4) (byte : Byte)
  /-- INTER_BYTE_TIMEOUT (R172). -/
  | interByteTimeout (link : Fin 4)
  /-- TRANSMIT_BYTE_SENT (R176). -/
  | transmitByteSent (link : Fin 4)
  /-- RESPONSE_PLACED (R175). -/
  | responsePlaced (link : Fin 4)
  /-- PENDING_FRAME_TAKEN (R173). -/
  | pendingFrameTaken (link : Fin 4)
  /-- ENCODER_LINE_CHANGE (R1): the phase the lines now show, the gauge codes that stand at that moment, and the order in
  which the blocks act on the pitch if it is a forward one (R3; blocks left out act afterwards in their listed order). -/
  | encoderLineChange (phase : Fin 4) (gauges : GaugeCodes) (order : List PitchBlock)
  /-- CONVEYOR_STALL (R10). -/
  | conveyorStall
  /-- LOAD_CODE_RECEIVED (R45). -/
  | loadCodeReceived (arch : Fin 12) (code : Byte)
  /-- HOME_SWITCH_CHANGE (R48). -/
  | homeSwitchChange (arch : Fin 12) (closed : Bool)
  /-- RETURN_TIMEOUT (R48). -/
  | returnTimeout (arch : Fin 12)
  /-- ENTRY_TREADLE_CLOSING (R86, R87). -/
  | entryTreadleClosing
  /-- TREADLE_OPENING (R86). -/
  | treadleOpening (treadle : Treadle)
  /-- EXIT_TREADLE_CLOSING (R86, R93). -/
  | exitTreadleClosing
  /-- PRESENCE_LOOP_CHANGE (R81); lanes 1 to 3 are 0 to 2 here. -/
  | presenceLoopChange (lane : Fin 3) (asserted : Bool)
  /-- CALL_LAPSE (R83). -/
  | callLapse
  /-- GRACE_EXPIRY (R84). -/
  | graceExpiry
  /-- HOLD_EXPIRY (R113). -/
  | holdExpiry (ticket : Nat)
  /-- ESTOP_LINE_CHANGE (R128). -/
  | estopLineChange (asserted : Bool)
  /-- RESTART_WINDOW_EXPIRY (R138). -/
  | restartWindowExpiry
  /-- SAVE_STAGE_BEGIN (R188). -/
  | saveStageBegin
  /-- SAVE_REPORT (R189): whether the verification passed. -/
  | saveReport (passed : Bool)
  /-- SAVE_TIMEOUT (R189): whether the verification had passed on the medium when the expiry is taken. -/
  | saveTimeout (verified : Bool)
  /-- ROLLER_PULSE_END (R196). -/
  | rollerPulseEnd
  /-- POWER_ON_RESET (R191): the levels the start reads. A part that still has supply has lost it first (R190): `verified`
  says whether the verification of a save in flight had passed by then. -/
  | powerOnReset (lines : LineLevels) (verified : Bool)
  /-- LINE_RESET (R191): the levels the start reads, and whether the verification of a save in flight had passed (R190). -/
  | lineReset (lines : LineLevels) (verified : Bool)
  /-- LOSS_OF_SUPPLY (R190): whether the verification of a save in flight had passed. -/
  | lossOfSupply (verified : Bool)
  deriving DecidableEq, Repr

end Sys2Proof
end

