-- ==== Sys2Proof/WellFormed.lean ====
section
/-! DEFINITION. Which commands a frame or a line can carry: every field of a request fits the width that R194 and R195 give
it. A command that is not well formed still has a meaning (its own range tests refuse it); it merely stands for no frame. -/

namespace Sys2Proof

/-- A one-byte number. -/
abbrev fits8 (n : Nat) : Bool := n < 256
/-- A two-byte number. -/
abbrev fits16 (n : Nat) : Bool := n < 65536
/-- A four-byte number. -/
abbrev fits32 (n : Nat) : Bool := n < 4294967296

/-- A one-byte optional number whose absent value is all ones (R194). -/
def fitsOnes8 : Option Nat → Bool
  | none => true
  | some n => n < 255

/-- A two-byte optional number whose absent value is all ones (R194). -/
def fitsOnes16 : Option Nat → Bool
  | none => true
  | some n => n < 65535

/-- A one-byte optional number whose absent value is 0 (R194: a lane). -/
def fitsZero8 : Option Nat → Bool
  | none => true
  | some n => 0 < n && n < 256

/-- A two-byte optional number whose absent value is 0 (R194: a ticket or a car). -/
def fitsZero16 : Option Nat → Bool
  | none => true
  | some n => 0 < n && n < 65536

/-- A services list whose items fit {service, press}. -/
def fitsServices (l : List ServicePress) : Bool :=
  fits8 l.length && l.all fun x => fits8 x.service && fits16 x.press

/-- A plan record whose fields fit their widths, with the whole 16-byte name field. -/
def fitsPlan (p : Plan) : Bool :=
  p.name.length == 16 && fits8 p.region && fits32 p.price && fits8 p.maxClass && fitsServices p.services

/-- An extra record whose fields fit their widths, with the whole 16-byte name field. -/
def fitsExtra (e : Extra) : Bool :=
  e.name.length == 16 && fits32 e.price && fitsServices e.services

/-- A layout record whose fields fit their widths. -/
def fitsLayout (r : LayoutArg) : Bool :=
  fits8 r.kind && fits8 r.service && fits16 r.offset && fits8 r.lead && fits8 r.trail && fits8 r.lookAhead
    && fits16 r.minimum && fits16 r.maximum && fits16 r.slew && fits16 r.margin && fits8 r.tripThreshold
    && fits8 r.policy && fits8 r.initial

/-- Site parameters whose fields fit their widths. -/
def fitsSite (s : Site) : Bool :=
  fits16 s.gaugeOffset && fits16 s.exitOffset && fits8 s.exitTolerance && fits16 s.gap && fits8 s.rollback
    && s.speeds.toList.all (fun n => fits8 n) && fits8 s.cap && fits16 s.presence && fits16 s.quoteHold
    && fits8 s.callTimeout && fits8 s.returnTimeout && fits8 s.stallTime && s.stackLimits.toList.all (fun n => fits8 n)
    && fitsOnes8 s.fallback

/-- A sample whose values fit two bytes each. -/
def fitsSample (x : Sample) : Bool := fits16 x.top && fits16 x.left && fits16 x.right

/-- The kind codes of the requests (R193). -/
def isRequestKind (kind : Byte) : Bool :=
  let k := kind.toNat
  (0x10 ≤ k && k ≤ 0x15) || (0x20 ≤ k && k ≤ 0x2A) || (0x30 ≤ k && k ≤ 0x35) || (0x38 ≤ k && k ≤ 0x3E)
    || (0x40 ≤ k && k ≤ 0x42) || k == 0x48 || k == 0x49 || k == 0x50

/-- The blocks of an order of action are named once each; the Supervisor may come in as often as it likes (R63). -/
def fitsOrder (l : List PitchBlock) : Bool :=
  (l.filter (· != .supervisor)).Nodup

/-- A command that a frame or a line can carry. -/
def Instr.wellFormed : Instr → Bool
  | .quote _ plan extras slot lane =>
      fits8 plan && fits8 extras.length && extras.all (fun n => fits8 n) && fitsOnes8 slot && fitsZero8 lane
  | .confirm _ ticket tender => fits16 ticket && fits8 tender
  | .cancel _ ticket => fits16 ticket
  | .voidTicket _ ticket => fits16 ticket
  | .requeue _ ticket => fits16 ticket
  | .queryTickets _ ticket first => fitsZero16 ticket && fits8 first
  | .halt _ => true
  | .pullCar _ car => fits16 car
  | .openTunnel _ => true
  | .closeTunnel _ => true
  | .restart _ => true
  | .clearTunnel _ => true
  | .queryTunnel _ car first => fitsZero16 car && fitsOnes8 first
  | .queryHalt _ part => fits8 part
  | .setArchService _ arch setting => fits8 arch && fits8 setting
  | .clearJam _ arch => fits8 arch
  | .queryArch _ arch first => fits8 arch && fitsOnes8 first
  | .editPlan _ plan record => fits8 plan && fitsPlan record
  | .editExtra _ extra record => fits8 extra && fitsExtra record
  | .editDiscount _ slot record => fits8 slot && fits8 record.kind && fits32 record.value
  | .editService _ service name => fits8 service && name.length == 12
  | .lockRange _ first last => fits8 first && fits8 last
  | .queryCatalog _ kind number => fits8 kind && fits8 number
  | .setArch _ arch record => fits8 arch && fitsLayout record
  | .setGauge _ gauge first values =>
      fits8 gauge && fits8 first && fits8 values.length && values.all (fun n => fits16 n)
  | .setSite _ site => fitsSite site
  | .setTestProfile _ profile length first samples =>
      fits8 profile && fits16 length && fits8 first && fits8 samples.length && samples.all fitsSample
  | .setAccess _ target entry => fits8 target && fitsZero8 entry.lane
  | .saveStore _ => true
  | .queryStatus _ part => fits8 part
  | .closeout _ => true
  | .readJournal _ bank first => fits8 bank && fitsOnes16 first
  | .releaseBank _ bank => fits8 bank
  | .rehearse _ profile plan traced => fits8 profile && fits8 plan && fitsOnes8 traced
  | .readTrace _ first => fitsOnes16 first
  | .subscribe _ _ => true
  | .unknownKindRequest _ kind body => !isRequestKind kind && body.length ≤ 119
  | .receiveByte _ _ => true
  | .interByteTimeout _ => true
  | .transmitByteSent _ => true
  | .responsePlaced _ => true
  | .pendingFrameTaken _ => true
  | .encoderLineChange _ _ order => fitsOrder order
  | .conveyorStall => true
  | .loadCodeReceived _ _ => true
  | .homeSwitchChange _ _ => true
  | .returnTimeout _ => true
  | .entryTreadleClosing => true
  | .treadleOpening _ => true
  | .exitTreadleClosing => true
  | .presenceLoopChange _ _ => true
  | .callLapse => true
  | .graceExpiry => true
  | .holdExpiry ticket => fits16 ticket
  | .estopLineChange _ => true
  | .restartWindowExpiry => true
  | .saveStageBegin => true
  | .saveReport _ => true
  | .saveTimeout _ => true
  | .rollerPulseEnd => true
  | .powerOnReset _ _ => true
  | .lineReset _ _ => true
  | .lossOfSupply _ => true

end Sys2Proof
end

