-- ==== Sys2Proof/Decode.lean ====
section
/-! DEFINITION. The bytes of a request frame read as a command and written from one (R193 to R195), and the two fixed names
over the opcode table, whose rows give no bits. -/

namespace Sys2Proof

/-! ## The opcode table -/

/-- No row of spec/opcode_table.json gives bits, so no word spells a command. -/
def decodeTableWord (_nbits _w : Nat) : Option Instr := none

/-! ## Writing values (R194, R195) -/

def put8 (n : Nat) : List Byte := [BitVec.ofNat 8 n]
/-- Least significant byte first (R194). -/
def put16 (n : Nat) : List Byte := put8 (n % 256) ++ put8 (n / 256)
def put32 (n : Nat) : List Byte := put16 (n % 65536) ++ put16 (n / 65536)
def put64 (n : Nat) : List Byte := put32 (n % 4294967296) ++ put32 (n / 4294967296)
/-- An absent value sent as all ones of one byte (R194). -/
def putOnes8 (o : Option Nat) : List Byte := put8 (o.getD 255)
/-- An absent value sent as all ones of two bytes (R194). -/
def putOnes16 (o : Option Nat) : List Byte := put16 (o.getD 65535)
/-- An absent value sent as all ones of four bytes (R194). -/
def putOnes32 (o : Option Nat) : List Byte := put32 (o.getD 4294967295)
/-- An absent lane, class or tender is sent as 0 (R194). -/
def putZero8 (o : Option Nat) : List Byte := put8 (o.getD 0)
/-- An absent ticket, car or halt number is sent as 0 (R194). -/
def putZero16 (o : Option Nat) : List Byte := put16 (o.getD 0)
/-- A flag, 1 when set (log entry 12). -/
def putFlag (b : Bool) : List Byte := put8 (if b then 1 else 0)
/-- A list of values is a count byte followed by its items (R195). -/
def putList {α : Type} (item : α → List Byte) (l : List α) : List Byte := put8 l.length ++ l.flatMap item
/-- A fixed name field, padded with 0x00 after its last character (R194). -/
def putName (width : Nat) (name : List Byte) : List Byte := (name ++ List.replicate width 0).take width

def putService (x : ServicePress) : List Byte := put8 x.service ++ put16 x.press
def putSample (x : Sample) : List Byte := put16 x.top ++ put16 x.left ++ put16 x.right

/-! ## Reading values (R194, R195) -/

def get8 : List Byte → Option (Nat × List Byte)
  | b :: r => some (b.toNat, r)
  | [] => none

def get16 : List Byte → Option (Nat × List Byte)
  | a :: b :: r => some (a.toNat + 256 * b.toNat, r)
  | _ => none

def get32 : List Byte → Option (Nat × List Byte)
  | a :: b :: c :: d :: r => some (a.toNat + 256 * b.toNat + 65536 * (c.toNat + 256 * d.toNat), r)
  | _ => none

/-- A byte that is a set (R194; log entry 51). -/
def getMask : List Byte → Option (Byte × List Byte)
  | b :: r => some (b, r)
  | [] => none

/-- A flag: any byte but 0 is set (log entry 12). -/
def getFlag : List Byte → Option (Bool × List Byte)
  | b :: r => some (b != 0, r)
  | [] => none

def onesOption8 (n : Nat) : Option Nat := if n = 255 then none else some n
def onesOption16 (n : Nat) : Option Nat := if n = 65535 then none else some n
def zeroOption (n : Nat) : Option Nat := if n = 0 then none else some n

/-- A fixed number of bytes. -/
def getBytes : Nat → List Byte → Option (List Byte × List Byte)
  | 0, r => some ([], r)
  | _ + 1, [] => none
  | n + 1, b :: r => (getBytes n r).map fun x => (b :: x.1, x.2)

/-- A fixed number of items. -/
def getMany {α : Type} (item : List Byte → Option (α × List Byte)) : Nat → List Byte → Option (List α × List Byte)
  | 0, r => some ([], r)
  | n + 1, r => (item r).bind fun x => (getMany item n x.2).map fun y => (x.1 :: y.1, y.2)

/-- A list of values: a count byte and its items (R195). -/
def getList {α : Type} (item : List Byte → Option (α × List Byte)) (b : List Byte) : Option (List α × List Byte) :=
  (get8 b).bind fun n => getMany item n.1 n.2

def getService (b : List Byte) : Option (ServicePress × List Byte) := do
  let (service, b) ← get8 b
  let (press, b) ← get16 b
  some (⟨service, press⟩, b)

def getSample (b : List Byte) : Option (Sample × List Byte) := do
  let (top, b) ← get16 b
  let (left, b) ← get16 b
  let (right, b) ← get16 b
  some (⟨top, left, right⟩, b)

/-- A body ends where its values end: a longer one is malformed (R174, R195). -/
def atEnd {α : Type} (x : α) : List Byte → Option α
  | [] => some x
  | _ :: _ => none

/-! ## Records -/

/-- A plan record in the order of its table (06_plans_prices_and_tickets.md). DEDUCED (log entry 56): the number, which the request
names beside it, is not repeated in it. -/
def putPlan (p : Plan) : List Byte :=
  putName 16 p.name ++ putFlag p.enabled ++ put8 p.region ++ put32 p.price ++ put8 p.maxClass
    ++ putList putService p.services ++ [p.allowed]

def getPlan (b : List Byte) : Option (Plan × List Byte) := do
  let (name, b) ← getBytes 16 b
  let (enabled, b) ← getFlag b
  let (region, b) ← get8 b
  let (price, b) ← get32 b
  let (maxClass, b) ← get8 b
  let (services, b) ← getList getService b
  let (allowed, b) ← getMask b
  some (⟨name, enabled, region, price, maxClass, services, allowed⟩, b)

/-- An extra record in the order of its table, without its number (DEDUCED, log entry 56). -/
def putExtra (e : Extra) : List Byte :=
  putName 16 e.name ++ putFlag e.enabled ++ put32 e.price ++ putList putService e.services

def getExtra (b : List Byte) : Option (Extra × List Byte) := do
  let (name, b) ← getBytes 16 b
  let (enabled, b) ← getFlag b
  let (price, b) ← get32 b
  let (services, b) ← getList getService b
  some (⟨name, enabled, price, services⟩, b)

def putLayoutArg (r : LayoutArg) : List Byte :=
  put8 r.kind ++ put8 r.service ++ put16 r.offset ++ put8 r.lead ++ put8 r.trail ++ put8 r.lookAhead
    ++ put16 r.minimum ++ put16 r.maximum ++ put16 r.slew ++ put16 r.margin ++ put8 r.tripThreshold
    ++ put8 r.policy ++ put8 r.initial

def getLayoutArg (b : List Byte) : Option (LayoutArg × List Byte) := do
  let (kind, b) ← get8 b
  let (service, b) ← get8 b
  let (offset, b) ← get16 b
  let (lead, b) ← get8 b
  let (trail, b) ← get8 b
  let (lookAhead, b) ← get8 b
  let (minimum, b) ← get16 b
  let (maximum, b) ← get16 b
  let (slew, b) ← get16 b
  let (margin, b) ← get16 b
  let (tripThreshold, b) ← get8 b
  let (policy, b) ← get8 b
  let (initial, b) ← get8 b
  some (⟨kind, service, offset, lead, trail, lookAhead, minimum, maximum, slew, margin, tripThreshold, policy, initial⟩, b)

def putSite (s : Site) : List Byte :=
  put16 s.gaugeOffset ++ put16 s.exitOffset ++ put8 s.exitTolerance ++ put16 s.gap ++ put8 s.rollback
    ++ s.speeds.toList.flatMap put8 ++ put8 s.cap ++ put16 s.presence ++ put16 s.quoteHold ++ put8 s.callTimeout
    ++ put8 s.returnTimeout ++ put8 s.stallTime ++ s.stackLimits.toList.flatMap put8 ++ putOnes8 s.fallback

def getSite (b : List Byte) : Option (Site × List Byte) := do
  let (gaugeOffset, b) ← get16 b
  let (exitOffset, b) ← get16 b
  let (exitTolerance, b) ← get8 b
  let (gap, b) ← get16 b
  let (rollback, b) ← get8 b
  let (v1, b) ← get8 b
  let (v2, b) ← get8 b
  let (v3, b) ← get8 b
  let (v4, b) ← get8 b
  let (cap, b) ← get8 b
  let (presence, b) ← get16 b
  let (quoteHold, b) ← get16 b
  let (callTimeout, b) ← get8 b
  let (returnTimeout, b) ← get8 b
  let (stallTime, b) ← get8 b
  let (l1, b) ← get8 b
  let (l2, b) ← get8 b
  let (l3, b) ← get8 b
  let (fallback, b) ← get8 b
  some (⟨gaugeOffset, exitOffset, exitTolerance, gap, rollback, #v[v1, v2, v3, v4], cap, presence, quoteHold, callTimeout,
    returnTimeout, stallTime, #v[l1, l2, l3], onesOption8 fallback⟩, b)

/-- An access entry: each set of regions, permissions and notice types takes a byte of its own, a 4-bit set its low four bits
(DESIGN CHOICE, log entry 51). -/
def putAccess (a : Access) : List Byte :=
  putZero8 a.lane ++ [a.sell, a.edit, a.permissions, a.subscriptions]

def getAccess (b : List Byte) : Option (Access × List Byte) := do
  let (lane, b) ← get8 b
  let (sell, b) ← getMask b
  let (edit, b) ← getMask b
  let (permissions, b) ← getMask b
  let (subscriptions, b) ← getMask b
  some (⟨zeroOption lane, sell, edit, permissions, subscriptions⟩, b)

/-! ## Requests -/

/-- The frame of a request: its kind code (R193) and its body (R195). A line event has none. -/
def encodeRequest : Instr → Option Frame
  | .quote _ plan extras slot lane => some ⟨0x10, put8 plan ++ putList put8 extras ++ putOnes8 slot ++ putZero8 lane⟩
  | .confirm _ ticket tender => some ⟨0x11, put16 ticket ++ put8 tender⟩
  | .cancel _ ticket => some ⟨0x12, put16 ticket⟩
  | .voidTicket _ ticket => some ⟨0x13, put16 ticket⟩
  | .requeue _ ticket => some ⟨0x14, put16 ticket⟩
  | .queryTickets _ ticket first => some ⟨0x15, putZero16 ticket ++ put8 first⟩
  | .halt _ => some ⟨0x20, []⟩
  | .pullCar _ car => some ⟨0x21, put16 car⟩
  | .openTunnel _ => some ⟨0x22, []⟩
  | .closeTunnel _ => some ⟨0x23, []⟩
  | .restart _ => some ⟨0x24, []⟩
  | .clearTunnel _ => some ⟨0x25, []⟩
  | .queryTunnel _ car first => some ⟨0x26, putZero16 car ++ putOnes8 first⟩
  | .queryHalt _ part => some ⟨0x27, put8 part⟩
  | .setArchService _ arch setting => some ⟨0x28, put8 arch ++ put8 setting⟩
  | .clearJam _ arch => some ⟨0x29, put8 arch⟩
  | .queryArch _ arch first => some ⟨0x2A, put8 arch ++ putOnes8 first⟩
  | .editPlan _ plan record => some ⟨0x30, put8 plan ++ putPlan record⟩
  | .editExtra _ extra record => some ⟨0x31, put8 extra ++ putExtra record⟩
  | .editDiscount _ slot record => some ⟨0x32, put8 slot ++ put8 record.kind ++ put32 record.value ++ [record.regions]⟩
  | .editService _ service name => some ⟨0x33, put8 service ++ putName 12 name⟩
  | .lockRange _ first last => some ⟨0x34, put8 first ++ put8 last⟩
  | .queryCatalog _ kind number => some ⟨0x35, put8 kind ++ put8 number⟩
  | .setArch _ arch record => some ⟨0x38, put8 arch ++ putLayoutArg record⟩
  | .setGauge _ gauge first values => some ⟨0x39, put8 gauge ++ put8 first ++ putList put16 values⟩
  | .setSite _ site => some ⟨0x3A, putSite site⟩
  | .setTestProfile _ profile length first samples =>
      some ⟨0x3B, put8 profile ++ put16 length ++ put8 first ++ putList putSample samples⟩
  | .setAccess _ target entry => some ⟨0x3C, put8 target ++ putAccess entry⟩
  | .saveStore _ => some ⟨0x3D, []⟩
  | .queryStatus _ part => some ⟨0x3E, put8 part⟩
  | .closeout _ => some ⟨0x40, []⟩
  | .readJournal _ bank first => some ⟨0x41, put8 bank ++ putOnes16 first⟩
  | .releaseBank _ bank => some ⟨0x42, put8 bank⟩
  | .rehearse _ profile plan traced => some ⟨0x48, put8 profile ++ put8 plan ++ putOnes8 traced⟩
  | .readTrace _ first => some ⟨0x49, putOnes16 first⟩
  | .subscribe _ set => some ⟨0x50, [set]⟩
  | .unknownKindRequest _ kind body => some ⟨kind, body⟩
  | .receiveByte _ _ => none
  | .interByteTimeout _ => none
  | .transmitByteSent _ => none
  | .responsePlaced _ => none
  | .pendingFrameTaken _ => none
  | .encoderLineChange _ _ _ => none
  | .conveyorStall => none
  | .loadCodeReceived _ _ => none
  | .homeSwitchChange _ _ => none
  | .returnTimeout _ => none
  | .entryTreadleClosing => none
  | .treadleOpening _ => none
  | .exitTreadleClosing => none
  | .presenceLoopChange _ _ => none
  | .callLapse => none
  | .graceExpiry => none
  | .holdExpiry _ => none
  | .estopLineChange _ => none
  | .restartWindowExpiry => none
  | .saveStageBegin => none
  | .saveReport _ => none
  | .saveTimeout _ => none
  | .rollerPulseEnd => none
  | .powerOnReset _ _ => none
  | .lineReset _ _ => none
  | .lossOfSupply _ => none

/-- The link that a request comes from; a line event comes from none. -/
def requestLink : Instr → Option (Fin 4)
  | .quote l _ _ _ _ => some l
  | .confirm l _ _ => some l
  | .cancel l _ => some l
  | .voidTicket l _ => some l
  | .requeue l _ => some l
  | .queryTickets l _ _ => some l
  | .halt l => some l
  | .pullCar l _ => some l
  | .openTunnel l => some l
  | .closeTunnel l => some l
  | .restart l => some l
  | .clearTunnel l => some l
  | .queryTunnel l _ _ => some l
  | .queryHalt l _ => some l
  | .setArchService l _ _ => some l
  | .clearJam l _ => some l
  | .queryArch l _ _ => some l
  | .editPlan l _ _ => some l
  | .editExtra l _ _ => some l
  | .editDiscount l _ _ => some l
  | .editService l _ _ => some l
  | .lockRange l _ _ => some l
  | .queryCatalog l _ _ => some l
  | .setArch l _ _ => some l
  | .setGauge l _ _ _ => some l
  | .setSite l _ => some l
  | .setTestProfile l _ _ _ _ => some l
  | .setAccess l _ _ => some l
  | .saveStore l => some l
  | .queryStatus l _ => some l
  | .closeout l => some l
  | .readJournal l _ _ => some l
  | .releaseBank l _ => some l
  | .rehearse l _ _ _ => some l
  | .readTrace l _ => some l
  | .subscribe l _ => some l
  | .unknownKindRequest l _ _ => some l
  | .receiveByte _ _ => none
  | .interByteTimeout _ => none
  | .transmitByteSent _ => none
  | .responsePlaced _ => none
  | .pendingFrameTaken _ => none
  | .encoderLineChange _ _ _ => none
  | .conveyorStall => none
  | .loadCodeReceived _ _ => none
  | .homeSwitchChange _ _ => none
  | .returnTimeout _ => none
  | .entryTreadleClosing => none
  | .treadleOpening _ => none
  | .exitTreadleClosing => none
  | .presenceLoopChange _ _ => none
  | .callLapse => none
  | .graceExpiry => none
  | .holdExpiry _ => none
  | .estopLineChange _ => none
  | .restartWindowExpiry => none
  | .saveStageBegin => none
  | .saveReport _ => none
  | .saveTimeout _ => none
  | .rollerPulseEnd => none
  | .powerOnReset _ _ => none
  | .lineReset _ _ => none
  | .lossOfSupply _ => none

/-- A request body read by the kind of its frame: `none` where the body is malformed (R174, check 2). -/
def decodeBody (l : Fin 4) (kind : Nat) (b : List Byte) : Option Instr :=
  match kind with
  | 0x10 => do
    let (plan, b) ← get8 b
    let (extras, b) ← getList get8 b
    let (slot, b) ← get8 b
    let (lane, b) ← get8 b
    atEnd (.quote l plan extras (onesOption8 slot) (zeroOption lane)) b
  | 0x11 => do
    let (ticket, b) ← get16 b
    let (tender, b) ← get8 b
    atEnd (.confirm l ticket tender) b
  | 0x12 => do
    let (ticket, b) ← get16 b
    atEnd (.cancel l ticket) b
  | 0x13 => do
    let (ticket, b) ← get16 b
    atEnd (.voidTicket l ticket) b
  | 0x14 => do
    let (ticket, b) ← get16 b
    atEnd (.requeue l ticket) b
  | 0x15 => do
    let (ticket, b) ← get16 b
    let (first, b) ← get8 b
    atEnd (.queryTickets l (zeroOption ticket) first) b
  | 0x20 => atEnd (.halt l) b
  | 0x21 => do
    let (car, b) ← get16 b
    atEnd (.pullCar l car) b
  | 0x22 => atEnd (.openTunnel l) b
  | 0x23 => atEnd (.closeTunnel l) b
  | 0x24 => atEnd (.restart l) b
  | 0x25 => atEnd (.clearTunnel l) b
  | 0x26 => do
    let (car, b) ← get16 b
    let (first, b) ← get8 b
    atEnd (.queryTunnel l (zeroOption car) (onesOption8 first)) b
  | 0x27 => do
    let (part, b) ← get8 b
    atEnd (.queryHalt l part) b
  | 0x28 => do
    let (arch, b) ← get8 b
    let (setting, b) ← get8 b
    atEnd (.setArchService l arch setting) b
  | 0x29 => do
    let (arch, b) ← get8 b
    atEnd (.clearJam l arch) b
  | 0x2A => do
    let (arch, b) ← get8 b
    let (first, b) ← get8 b
    atEnd (.queryArch l arch (onesOption8 first)) b
  | 0x30 => do
    let (plan, b) ← get8 b
    let (record, b) ← getPlan b
    atEnd (.editPlan l plan record) b
  | 0x31 => do
    let (extra, b) ← get8 b
    let (record, b) ← getExtra b
    atEnd (.editExtra l extra record) b
  | 0x32 => do
    let (slot, b) ← get8 b
    let (kind, b) ← get8 b
    let (value, b) ← get32 b
    let (regions, b) ← getMask b
    atEnd (.editDiscount l slot ⟨kind, value, regions⟩) b
  | 0x33 => do
    let (service, b) ← get8 b
    let (name, b) ← getBytes 12 b
    atEnd (.editService l service name) b
  | 0x34 => do
    let (first, b) ← get8 b
    let (last, b) ← get8 b
    atEnd (.lockRange l first last) b
  | 0x35 => do
    let (kind, b) ← get8 b
    let (number, b) ← get8 b
    atEnd (.queryCatalog l kind number) b
  | 0x38 => do
    let (arch, b) ← get8 b
    let (record, b) ← getLayoutArg b
    atEnd (.setArch l arch record) b
  | 0x39 => do
    let (gauge, b) ← get8 b
    let (first, b) ← get8 b
    let (values, b) ← getList get16 b
    atEnd (.setGauge l gauge first values) b
  | 0x3A => do
    let (site, b) ← getSite b
    atEnd (.setSite l site) b
  | 0x3B => do
    let (profile, b) ← get8 b
    let (length, b) ← get16 b
    let (first, b) ← get8 b
    let (samples, b) ← getList getSample b
    atEnd (.setTestProfile l profile length first samples) b
  | 0x3C => do
    let (target, b) ← get8 b
    let (entry, b) ← getAccess b
    atEnd (.setAccess l target entry) b
  | 0x3D => atEnd (.saveStore l) b
  | 0x3E => do
    let (part, b) ← get8 b
    atEnd (.queryStatus l part) b
  | 0x40 => atEnd (.closeout l) b
  | 0x41 => do
    let (bank, b) ← get8 b
    let (first, b) ← get16 b
    atEnd (.readJournal l bank (onesOption16 first)) b
  | 0x42 => do
    let (bank, b) ← get8 b
    atEnd (.releaseBank l bank) b
  | 0x48 => do
    let (profile, b) ← get8 b
    let (plan, b) ← get8 b
    let (traced, b) ← get8 b
    atEnd (.rehearse l profile plan (onesOption8 traced)) b
  | 0x49 => do
    let (first, b) ← get16 b
    atEnd (.readTrace l (onesOption16 first)) b
  | 0x50 => do
    let (set, b) ← getMask b
    atEnd (.subscribe l set) b
  | _ => none

/-- The first two checks of R174: UNKNOWN for a kind byte that is no request's, INVALID for a malformed body. -/
def decodeRequest (l : Fin 4) (f : Frame) : Except Status Instr :=
  if isRequestKind f.kind then
    match decodeBody l f.kind.toNat f.body with
    | some i => .ok i
    | none => .error .invalid
  else .error .unknown

end Sys2Proof
end

