-- ==== Sys2Proof/Machine/Numbers.lean ====
section
/-! DEFINITION. The principal numbers of the part (00_scope.md), the arithmetic of positions and values, and the fixed lists of
arches, links and lanes. -/

namespace Sys2Proof.Machine

/-! ## Principal numbers -/

/-- Cars the table holds (R75). -/
def maxCars : Nat := 12
/-- Tickets the queue holds (R109). -/
def maxTickets : Nat := 16
/-- Forward pitches the settle window remembers (R12). -/
def settleDistance : Nat := 16
/-- Provisional rear extent in pitches, kept by an ABSENT car (R28). -/
def provisionalExtent : Int := 918
/-- Pitches after which a missing rear wheel is given up (R86). -/
def wheelSpan : Int := 500
/-- Pitches of front overhang the search allows (R20). -/
def overhang : Int := 150
/-- Pitches past G for a low nose (R20). -/
def lowNose : Int := 16
/-- Pitches between two samples (R23). -/
def samplePitch : Nat := 8
/-- Index of the last sample a profile can hold (R24, R26). -/
def lastSample : Nat := 95
/-- Length a spray arch takes for an ABSENT car (R22). -/
def nominalLength : Nat := 400
/-- Widest value a gauge table can give (R21). -/
def widest : Nat := 4095
/-- Tags a car or a record keeps (R78, R154). -/
def maxTags : Nat := 4
/-- Further causes a halt record keeps (R132). -/
def maxFurther : Nat := 4
/-- Records a bank stores (R153). -/
def bankCapacity : Nat := 256
/-- Bytes a transmit queue holds (R175). -/
def transmitCapacity : Nat := 256
/-- Largest LENGTH of a frame (R171). -/
def maxLength : Nat := 120
/-- Trace entries the ring holds (R166). -/
def traceCapacity : Nat := 64
/-- Price lock ranges (R181). -/
def maxLocks : Nat := 4
/-- Ticket numbers an expired list holds (R113). -/
def maxExpired : Nat := 4
/-- Lapses before a ticket stalls (R83). -/
def maxLapses : Nat := 3
/-- Grace timer, 5 s in 10 ms units (R83). -/
def graceUnits : Nat := 500
/-- Restart window, 60 s in 10 ms units (R135). -/
def windowUnits : Nat := 6000
/-- Save timer, 4 s in 10 ms units (R188). -/
def saveUnits : Nat := 400
/-- Roller-up pulse, 200 ms in 10 ms units (R196). -/
def pulseUnits : Nat := 20
/-- Inter-byte timer, 10 ms in 10 ms units (R172). -/
def interByteUnits : Nat := 1
/-- 10 ms units in a second. -/
def unitsPerSecond : Nat := 100
/-- Largest confirmation sequence (R114). -/
def maxSequence : Nat := 4294967295
/-- Where the counts of a halt record and of a link stop (R130, R171, R172), and the largest trace number (R166). -/
def count16Max : Nat := 65535
/-- Largest plan or extra price in cents (R100). -/
def maxPrice : Nat := 99999
/-- Largest press in millimetres (R100). -/
def maxPress : Nat := 150
/-- Values of a four-byte count before it starts again at 0 (R146). -/
def modulus32 : Nat := 4294967296
/-- Values of the eight-byte revenue total (R146). -/
def modulus64 : Nat := 18446744073709551616

/-! ## Arithmetic (00_scope.md, Conventions) -/

/-- P − Q read as a signed 16-bit number. -/
def signedDiff (p q : Pos) : Int := (p - q).toInt

/-- P has reached Q: P − Q, read as signed, is zero or greater. -/
def reached (p q : Pos) : Bool := 0 ≤ signedDiff p q

/-- A position a number of pitches further on, modulo 65,536. -/
def advance (p : Pos) (n : Nat) : Pos := p + BitVec.ofNat 16 n

/-- A position a number of pitches back, modulo 65,536. -/
def retreat (p : Pos) (n : Nat) : Pos := p - BitVec.ofNat 16 n

/-- ceil(n / d) for a divisor above 0. -/
def ceilDiv (n d : Nat) : Nat := (n + d - 1) / d

/-- Clamped to [a, b]: raised to a if below a and lowered to b if above b. -/
def clampTo (a b : Nat) (x : Int) : Nat := if x < a then a else if (b : Int) < x then b else x.toNat

/-- A count that stops at 65,535. -/
def stopAt16 (n : Nat) : Nat := min (n + 1) count16Max

/-- The first of the listed tests that fails gives the answer; `none` when all pass. -/
def firstFailed : List (Bool × Status) → Option Status
  | [] => none
  | (failed, st) :: rest => if failed then some st else firstFailed rest

/-! ## Fixed lists -/

/-- Arches 0 to 11. -/
def allArches : List (Fin 12) := [0, 1, 2, 3, 4, 5, 6, 7, 8, 9, 10, 11]
/-- Links 0 to 3. -/
def allLinks : List (Fin 4) := [0, 1, 2, 3]
/-- Pay lanes 1 to 3, counted from 0. -/
def allLanes : List (Fin 3) := [0, 1, 2]

/-- An arch number as a request carries it. -/
def archOf (n : Nat) : Option (Fin 12) := if h : n < 12 then some ⟨n, h⟩ else none
/-- A lane number 1 to 3 as a request or the access table carries it. -/
def laneOf (n : Nat) : Option (Fin 3) := if h : 0 < n ∧ n < 4 then some ⟨n - 1, by omega⟩ else none
/-- The number of a lane on the wire. -/
def laneNumber (l : Fin 3) : Nat := l.val + 1

/-- Member m of a set sent as a bit mask (R194). -/
def inSet (set : Byte) (m : Nat) : Bool := set.getLsbD m

/-- One set holds all members of another. -/
def subset (a b : Byte) : Bool := a &&& ~~~b == 0

/-- The element at an index is replaced by its image. -/
def modifyAt {α : Type} {n : Nat} (v : Vector α n) (i : Fin n) (f : α → α) : Vector α n := v.set i.val (f (v.get i)) i.isLt

/-- Every element is replaced by its image. -/
def mapAll {α β : Type} {n : Nat} (f : α → β) (v : Vector α n) : Vector β n := ⟨(v.toList.map f).toArray, by simp⟩

/-- The vector of the values at each index. -/
def tabulate {α : Type} {n : Nat} (f : Fin n → α) : Vector α n := ⟨((List.finRange n).map f).toArray, by simp⟩

/-- The element at a number, or a default outside the range. -/
def lookup {α : Type} {n : Nat} (v : Vector α n) (i : Nat) (d : α) : α := if h : i < n then v.get ⟨i, h⟩ else d

/-- The element at a number is replaced; nothing changes outside the range. -/
def store {α : Type} {n : Nat} (v : Vector α n) (i : Nat) (x : α) : Vector α n := if h : i < n then v.set i x h else v

/-- A number steps on through 1 to `top`, with `top` followed by 1 (R76, R108). -/
def stepOn (top n : Nat) : Nat := if n ≥ top then 1 else n + 1

/-- The first number from `n` onwards that is not in use (R76, R108); `fuel` numbers are looked at. -/
def nextFree (top : Nat) (used : List Nat) : Nat → Nat → Nat
  | 0, n => n
  | fuel + 1, n => if n ∈ used then nextFree top used fuel (stepOn top n) else n

end Sys2Proof.Machine
end

