-- ==== Sys2Proof/Machine/Defaults.lean ====
section
/-! DEFINITION. The running settings of a part that starts UNCONFIGURED (R187), with the records they are made of. -/

namespace Sys2Proof.Machine

/-- The default site parameters (11_settings_store_and_start_up.md, Site parameters). -/
def defaultSite : Site where
  gaugeOffset := 300
  exitOffset := 2400
  exitTolerance := 40
  gap := 300
  rollback := 8
  speeds := #v[12, 16, 20, 25]
  cap := 4
  presence := 300
  quoteHold := 90
  callTimeout := 20
  returnTimeout := 10
  stallTime := 2
  stackLimits := #v[6, 6, 6]
  fallback := none

/-- A disabled plan with a blank name, region 0, price 0, maximum class 4, no services and no allowed extras (R123). -/
def blankPlan : Plan where
  name := []
  enabled := false
  region := 0
  price := 0
  maxClass := 4
  services := []
  allowed := 0

/-- A disabled extra with a blank name, price 0 and no services (R123). -/
def blankExtra : Extra where
  name := []
  enabled := false
  price := 0
  services := []

/-- A discount slot that offers no discount (R103, R123). -/
def noDiscount : Discount where
  kind := .none
  value := 0
  regions := 0

/-- An open access entry: no lane, all regions, all permissions, all notice types (R184). -/
def openAccess : Access where
  lane := none
  sell := 0x0F
  edit := 0x0F
  permissions := 0x0F
  subscriptions := 0xFF

/-- An UNUSED arch with initial service IN (R34). DESIGN CHOICE (log entry 3): the other fields, which an UNUSED arch keeps and
does not use, are at the least value of their ranges. -/
def unusedLayout : Layout where
  kind := .unused
  service := 0
  offset := 0
  lead := 0
  trail := 0
  lookAhead := 0
  minimum := 0
  maximum := 0
  slew := 50
  margin := 10
  tripThreshold := 1
  policy := .halt
  initiallyOut := false

/-- The identity table: entry c holds c × 16 mm (R32). -/
def identityTable : Vector Nat 256 := ⟨((List.range 256).map fun c => c * 16).toArray, by simp⟩

/-- The running settings of a part whose image failed its check (R187). -/
def unconfiguredSettings : Settings where
  services := Vector.replicate 16 []
  plans := Vector.replicate 24 blankPlan
  extras := Vector.replicate 8 blankExtra
  discounts := Vector.replicate 8 noDiscount
  access := Vector.replicate 4 openAccess
  layouts := Vector.replicate 12 unusedLayout
  gauges := Vector.replicate 3 identityTable
  site := defaultSite
  testProfiles := Vector.replicate 2 none

/-- Line levels of a part at rest: nothing asserted, both treadles open, encoder phase 0, every home switch closed. DESIGN
CHOICE (log entry 2): the levels State.reset was started under. -/
def quietLines : LineLevels where
  phase := 0
  entryClosed := false
  exitClosed := false
  loops := Vector.replicate 3 false
  homeClosed := Vector.replicate 12 true
  estop := false
  strap := false

end Sys2Proof.Machine
end

