-- ==== Sys2Proof/Machine/State.lean ====
section
/-! DEFINITION. The state of the part, block by block (00_scope.md, Block overview), as plain data, and the state right after
power-on reset. -/

namespace Sys2Proof.Machine

/-! ## Conveyor Tracker (01_conveyor_tracking.md, Tracker state) -/

structure Tracker where
  /-- Reference phase (R1). -/
  phase : Fin 4
  /-- Position P. -/
  pos : Pos
  /-- Highest position H (R2). -/
  high : Pos
  /-- Rollback flag (R5). -/
  rolledBack : Bool
  /-- Run command: RUN or STOP (R7). -/
  run : Bool
  /-- Commanded class, shown on the class select lines (R9). -/
  commanded : Nat
  /-- Interval class (R12, R13). -/
  interval : Nat
  /-- Settle window, oldest first (R12). -/
  window : List Nat
  /-- Settle class (R12, R13). -/
  settle : Nat
  /-- Stall timer: idle, or units left (R10). -/
  stall : Option Nat
  deriving DecidableEq, Repr

/-! ## Profile Station (02_the_profile_station.md, The watched car) -/

/-- The station's mode with the sampling state that the mode has. -/
inductive Watch where
  /-- IDLE: no car is watched. -/
  | idle
  /-- SEARCHING for the front of the watched car. -/
  | searching (car : Nat)
  /-- SAMPLING: the watched car, P_first, the next index, the absent run, the last values (R21). -/
  | sampling (car : Nat) (first : Pos) (next : Nat) (absent : Bool) (last : Sample)
  deriving DecidableEq, Repr

/-- A staging record of SET_TEST_PROFILE (R29). -/
structure Staging where
  link : Fin 4
  length : Nat
  next : Nat
  samples : List Sample
  deriving DecidableEq, Repr

structure Station where
  watch : Watch
  staging : Vector (Option Staging) 2
  deriving DecidableEq, Repr

/-! ## Arch Channels (03_arch_channels.md) -/

inductive ArchPhase where
  | parked | following | spraying | returning | jammed
  deriving DecidableEq, Repr

inductive EventKind where
  | engage | release
  deriving DecidableEq, Repr

/-- An entry of an event list (03_arch_channels.md, The event list). -/
structure ArchEvent where
  position : Pos
  car : Nat
  kind : EventKind
  deriving DecidableEq, Repr

structure Arch where
  phase : ArchPhase
  /-- Command in millimetres (R36). -/
  command : Nat
  /-- Engaged car (R37). -/
  engaged : Option Nat
  /-- Event list (R40). -/
  events : List ArchEvent
  /-- Over count, 0 or 1 (R45). -/
  overOnce : Bool
  /-- Consecutive trip count (R46, R47). -/
  trips : Nat
  /-- Out-of-service flag (R47, R49). -/
  outOfService : Bool
  /-- Home switch reading (R48). -/
  homeClosed : Bool
  /-- The newest load code received on the load line (12_formats_and_connections.md, Pins and equipment lines). -/
  loadLine : Nat
  /-- Load code last read by a load check (R53, R54). -/
  loadRead : Nat
  /-- Return timer: idle, or units left (R48). -/
  timer : Option Nat
  deriving DecidableEq, Repr

/-- An entry of the trace ring (R166). -/
structure TraceEntry where
  number : Nat
  position : Pos
  target : Nat
  command : Nat
  deficit : Int
  deriving DecidableEq, Repr

/-! ## Car table (05_car_table_admission_and_exit.md, Fields of a car record) -/

inductive ProfileState where
  | waiting | measuring | complete | truncated | absent
  deriving DecidableEq, Repr

inductive ArchStatus where
  | pending | active | done | skipped | omitted
  deriving DecidableEq, Repr

/-- Incident tags (R78), with OVERFLOW, which a stored record can take (R154). -/
inductive Tag where
  | gaugeHold | noProfile | overlength | closeFollow | steep
  | archTrip (a : Fin 12)
  | archBusy | halted
  | shadowDeficit (a : Fin 12)
  | unbidden | exitDuringHalt | overflow
  deriving DecidableEq, Repr

inductive BankId where
  | bankA | bankB
  deriving DecidableEq, Repr

structure Car where
  number : Nat
  /-- The phantom car of a rehearsal (R164). -/
  phantom : Bool
  ticket : Option Nat
  lane : Option (Fin 3)
  plan : Option Nat
  maxClass : Nat
  extras : List Nat
  slot : Option Nat
  total : Nat
  tender : Option Tender
  services : List ServicePress
  bank : Option BankId
  anchor : Pos
  origin : Option Pos
  profile : ProfileState
  samples : List Sample
  rearExtent : Int
  /-- Class, applied class, in domain and requirements (04_profile_following_and_pacing.md, A car's class). -/
  cls : Nat
  applied : Option Nat
  inDomain : Bool
  requirements : Vector Nat 12
  /-- One status per arch that serves the car (R77). -/
  statuses : Vector (Option ArchStatus) 12
  tags : List Tag
  tagsLost : Nat
  missing : Bool
  unpaid : Bool
  firstHalt : Option Nat
  /-- The model's own: a gauge replacement has been tagged in this car (R21, R23: later ones add no further tag). -/
  gaugeHeld : Bool
  /-- The model's own: arches whose first shadow deficit has been tagged (R64: later ones at the same arch add no tag). -/
  shadowed : List (Fin 12)
  deriving DecidableEq, Repr

/-! ## Entry and Exit Control (R79 to R98) -/

/-- The call state: called ticket, called lane, call timer in units left (R82). -/
structure Call where
  ticket : Nat
  lane : Fin 3
  timer : Nat
  deriving DecidableEq, Repr

/-- The remembered ticket and its grace timer in units left (R83). -/
structure Remembered where
  ticket : Nat
  timer : Nat
  deriving DecidableEq, Repr

/-- A treadle's wheel state (R86). -/
inductive Wheel where
  | front
  | rear (mark : Pos)
  deriving DecidableEq, Repr

structure Entry where
  /-- The car table, oldest first (R75). -/
  table : List Car
  /-- Car number counter (R76). -/
  carCounter : Nat
  call : Option Call
  remembered : Option Remembered
  /-- Lane signals, true for GO (R82). -/
  signals : Vector Bool 3
  /-- Presence loop readings, true when asserted (R80). -/
  loops : Vector Bool 3
  entryClosed : Bool
  exitClosed : Bool
  entryWheel : Wheel
  exitWheel : Wheel
  /-- Roller-up actuator: at rest, or active with units left of its pulse (R196). -/
  roller : Option Nat
  deriving DecidableEq, Repr

/-! ## Sales Unit (06_plans_prices_and_tickets.md, Tickets) -/

inductive TicketState where
  | held | paid | called | stalled
  deriving DecidableEq, Repr

structure Ticket where
  number : Nat
  state : TicketState
  lane : Fin 3
  link : Fin 4
  plan : Nat
  extras : List Nat
  slot : Option Nat
  total : Nat
  tender : Option Tender
  /-- Service snapshot: maximum class and services list (R112). -/
  maxClass : Nat
  services : List ServicePress
  /-- Hold timer: idle, or units left (R112). -/
  hold : Option Nat
  /-- Confirmation sequence (R115). -/
  sequence : Option Nat
  lapses : Nat
  deriving DecidableEq, Repr

structure Sales where
  /-- The ticket queue, in the order in which the QUOTEs were taken (R121). -/
  tickets : List Ticket
  /-- Lane orders: ticket numbers, head first (R109). -/
  laneOrders : Vector (List Nat) 3
  /-- Stalled tickets in the order in which they stalled (R109). -/
  stalled : List Nat
  ticketCounter : Nat
  sequenceCounter : Nat
  /-- Expired lists, newest last (R113). -/
  expired : Vector (List Nat) 4
  /-- Availability, true for AVAILABLE (R104). -/
  planAvailable : Vector Bool 24
  extraAvailable : Vector Bool 8
  deriving DecidableEq, Repr

/-! ## Tunnel Supervisor (07_tunnel_states_halts_and_restart.md) -/

inductive TunnelState where
  | closed | opened | closing | halted | restarting | rehearsal
  deriving DecidableEq, Repr

/-- Halt causes with their arch and car (07_tunnel_states_halts_and_restart.md, Halt causes). -/
inductive Cause where
  | estop | manual | encoderSlip | conveyorReverse | conveyorStall
  | loadTrip (a : Fin 12) (car : Nat)
  | slewDeficit (a : Fin 12) (car : Nat)
  | archJam (a : Fin 12)
  | closeFollow (car : Nat)
  | tableFullEntry
  | carMissing (car : Nat)
  | strayExit | entryInRehearsal
  deriving DecidableEq, Repr

/-- A cause as taken, with its position. -/
structure TakenCause where
  cause : Cause
  position : Pos
  deriving DecidableEq, Repr

/-- The halt record (R130). -/
structure HaltRecord where
  number : Nat
  first : TakenCause
  resume : TunnelState
  further : List TakenCause
  furtherLost : Nat
  entries : Nat
  strays : Nat
  pulled : Nat
  refusals : Nat
  deriving DecidableEq, Repr

/-- How a halt ended: RESTARTED with the two links that confirmed, or CLEARED (R141). -/
inductive HaltEnding where
  | restarted (first second : Fin 4)
  | cleared
  deriving DecidableEq, Repr

/-- The last halt record (R141). -/
structure LastHalt where
  record : HaltRecord
  ending : HaltEnding
  position : Pos
  deriving DecidableEq, Repr

/-- The restart link and the restart window in units left (R135). -/
structure RestartAttempt where
  link : Fin 4
  timer : Nat
  deriving DecidableEq, Repr

structure Supervisor where
  tunnel : TunnelState
  halt : Option HaltRecord
  last : Option LastHalt
  haltCounter : Nat
  restart : Option RestartAttempt
  /-- Emergency-stop line reading, true when asserted (R128). -/
  estop : Bool
  deriving DecidableEq, Repr

/-! ## Wash Journal (08_the_wash_journal.md) -/

inductive BankState where
  | active | draining | sealed | empty
  deriving DecidableEq, Repr

inductive WashOutcome where
  | complete | partly | pulled | cleared | voided | resetLost
  deriving DecidableEq, Repr

inductive ServiceResult where
  | done | skipped | omitted
  deriving DecidableEq, Repr

/-- A journal record (08_the_wash_journal.md, Journal records). -/
structure JournalRecord where
  sequence : Nat
  ticket : Option Nat
  car : Option Nat
  lane : Option (Fin 3)
  plan : Option Nat
  extras : List Nat
  slot : Option Nat
  total : Nat
  tender : Option Tender
  outcome : WashOutcome
  length : Option Nat
  cls : Option Nat
  results : List (Nat × ServiceResult)
  tags : List Tag
  tagsLost : Nat
  firstHalt : Option Nat
  deriving DecidableEq, Repr

/-- A bank: its header (R146) and its records, oldest first (R153). -/
structure Bank where
  state : BankState
  written : Nat
  unread : Nat
  cursor : Nat
  overflow : Nat
  /-- The model's own: the bank's first overflow has happened (R154); the overflow count itself wraps (R146). -/
  overflowed : Bool
  admitted : Nat
  voided : Nat
  revenue : Nat
  /-- Counts by outcome, in outcome code order (R194). -/
  counts : Vector Nat 6
  records : List JournalRecord
  deriving DecidableEq, Repr

structure Journal where
  bankA : Bank
  bankB : Bank
  deriving DecidableEq, Repr

/-! ## Station Links (10_station_links_and_access.md) -/

/-- A receiver's state with its receive buffer (R171). -/
inductive Receiver where
  | hunt
  | length
  | body (length : Nat) (got : List Byte)
  | check (length : Nat) (got : List Byte)
  deriving DecidableEq, Repr

/-- A response: the request's kind byte, the status and the body after status and flags (R175). -/
structure Response where
  kind : Byte
  status : Status
  body : List Byte
  deriving DecidableEq, Repr

structure Link where
  receiver : Receiver
  /-- Inter-byte timer: idle, or units left (R172). -/
  timer : Option Nat
  /-- The request in progress: its response waits for room (R175). -/
  waiting : Option Response
  /-- The pending frame (R173). -/
  pendingFrame : Option Frame
  /-- Transmit queue, next byte to leave first (R176). -/
  queue : List Byte
  overrun : Bool
  noticesLost : Bool
  errors : Nat
  timeouts : Nat
  deriving DecidableEq, Repr

/-- A notice raised by the event being handled (R176): its type, the one link it is for (ticket notices), its body. -/
structure Notice where
  type : NoticeType
  target : Option (Fin 4)
  body : List Byte
  deriving DecidableEq, Repr

/-! ## Settings Store (11_settings_store_and_start_up.md) -/

inductive SaveStage where
  | erasing | writing | verifying
  deriving DecidableEq, Repr

/-- A save in flight: its snapshot, stage and timer in units left (R188). -/
structure Save where
  snapshot : Settings
  stage : SaveStage
  timer : Nat
  deriving DecidableEq, Repr

/-- The non-volatile image: the settings it holds and the check value written with them (R185). -/
structure StoreImage where
  settings : Settings
  check : BitVec 16
  deriving DecidableEq, Repr

structure Store where
  /-- The image on the medium; none while no image has been written since the last erasure (log entry 4). -/
  image : Option StoreImage
  dirty : Bool
  invalid : Bool
  /-- The part started UNCONFIGURED (R187). -/
  unconfigured : Bool
  /-- A layout is present (R34). -/
  layoutPresent : Bool
  save : Option Save
  deriving DecidableEq, Repr

/-! ## Rehearsal record (09_rehearsal_runs.md) -/

/-- How a rehearsal ended: END, or ABANDONED with the halt number (R168, R169). -/
inductive RunEnding where
  | ended
  | abandoned (haltNumber : Nat)
  deriving DecidableEq, Repr

/-- A rehearsal's summary (R170). -/
structure Summary where
  phantom : Nat
  profile : Nat
  samples : Nat
  plan : Nat
  traced : Option (Fin 12)
  ending : RunEnding
  cls : Nat
  applied : Nat
  statuses : List (Fin 12 × ArchStatus)
  tags : List Tag
  tagsLost : Nat
  written : Nat
  deriving DecidableEq, Repr

structure Rehearsal where
  running : Bool
  profile : Option Nat
  plan : Option Nat
  traced : Option (Fin 12)
  phantom : Option Nat
  endPos : Pos
  written : Nat
  last : Option Summary
  deriving DecidableEq, Repr

/-! ## The whole part -/

/-- The state of the part. -/
structure State where
  tracker : Tracker
  station : Station
  arches : Vector Arch 12
  trace : List TraceEntry
  entry : Entry
  sales : Sales
  supervisor : Supervisor
  journal : Journal
  links : Vector Link 4
  /-- The running settings (R185). -/
  settings : Settings
  store : Store
  /-- Price lock ranges in the order they were set (R181). -/
  locks : List (Nat × Nat)
  /-- Strap mode (R180). -/
  strap : Bool
  rehearsal : Rehearsal
  /-- The part has supply (R190, R191). -/
  powered : Bool
  /-- The model's own: causes raised on the pitch being handled and not yet taken (R63). Empty between commands. -/
  raised : List Cause
  /-- The model's own: notices raised by the event being handled and not yet offered (R176). Empty between commands. -/
  outbox : List Notice
  /-- The commands that are waiting, first in, first out. -/
  pending : List Instr
  deriving DecidableEq, Repr

/-- No command of the part stops it with a fault: every condition the spec describes is a halt cause, an incident, a status
code or a flag, and the part goes on. The type has no constructor. -/
inductive Fault where
  deriving DecidableEq, Repr

/-- The refusals. -/
inductive Refusal where
  /-- Raised by `exec`'s arm of a command that has no meaning yet; safe (no claim can be proved of its effect). No arm
  answers it now. -/
  | notModelled (mnemonic : String)
  deriving DecidableEq, Repr

/-! ## Reset -/

/-- A zeroed bank in a given state (R146). -/
def zeroedBank (state : BankState) : Bank where
  state := state
  written := 0
  unread := 0
  cursor := 0
  overflow := 0
  overflowed := false
  admitted := 0
  voided := 0
  revenue := 0
  counts := Vector.replicate 6 0
  records := []

/-- An arch after a reset that finds it UNUSED (R54). -/
def restingArch : Arch where
  phase := .parked
  command := 0
  engaged := none
  events := []
  overOnce := false
  trips := 0
  outOfService := false
  homeClosed := true
  loadLine := 0
  loadRead := 0
  timer := none

/-- A link after power-on reset (R183). -/
def restingLink : Link where
  receiver := .hunt
  timer := none
  waiting := none
  pendingFrame := none
  queue := []
  overrun := false
  noticesLost := false
  errors := 0
  timeouts := 0

/-- The part right after power-on reset (R191) with an image that fails its check (R187) and nothing asserted on its lines (log
entries 1 and 2): CLOSED, UNCONFIGURED, with no command waiting. -/
def State.reset : State where
  tracker :=
    { phase := 0, pos := 0, high := 0, rolledBack := false, run := false, commanded := 1, interval := 1, window := [],
      settle := 1, stall := none }
  station := { watch := .idle, staging := Vector.replicate 2 none }
  arches := Vector.replicate 12 restingArch
  trace := []
  entry :=
    { table := [], carCounter := 1, call := none, remembered := none, signals := Vector.replicate 3 false,
      loops := Vector.replicate 3 false, entryClosed := false, exitClosed := false, entryWheel := .front,
      exitWheel := .front, roller := none }
  sales :=
    { tickets := [], laneOrders := Vector.replicate 3 [], stalled := [], ticketCounter := 1, sequenceCounter := 0,
      expired := Vector.replicate 4 [], planAvailable := Vector.replicate 24 false,
      extraAvailable := Vector.replicate 8 false }
  supervisor := { tunnel := .closed, halt := none, last := none, haltCounter := 0, restart := none, estop := false }
  journal := { bankA := zeroedBank .active, bankB := zeroedBank .empty }
  links := Vector.replicate 4 restingLink
  settings := unconfiguredSettings
  store := { image := none, dirty := false, invalid := true, unconfigured := true, layoutPresent := false, save := none }
  locks := []
  strap := false
  rehearsal :=
    { running := false, profile := none, plan := none, traced := none, phantom := none, endPos := 0, written := 0,
      last := none }
  powered := true
  raised := []
  outbox := []
  pending := []

end Sys2Proof.Machine
end

