-- ==== Sys2Proof/Machine/Codes.lean ====
section
/-! DEFINITION. The codes of enumerated values on a link (R193 to R195). -/

namespace Sys2Proof.Machine

/-- Status codes 0 to 15 in the order of the status table (R193). -/
def statusCode : Status → Nat
  | .ok => 0 | .denied => 1 | .state => 2 | .busy => 3 | .unknown => 4 | .invalid => 5 | .queueFull => 6 | .laneFull => 7
  | .unavailable => 8 | .expired => 9 | .notOwner => 10 | .locked => 11 | .needOther => 12 | .notReady => 13
  | .bankBusy => 14 | .empty => 15

/-- Permissions as members of their set (R194). -/
def permissionBit : Permission → Nat
  | .operate => 0 | .restart => 1 | .closeout => 2 | .configure => 3

/-- Notice types in the order of R193; also their members in a subscription set (R194). -/
def noticeIndex : NoticeType → Nat
  | .halt => 0 | .restart => 1 | .ticket => 2 | .stall => 3 | .availability => 4 | .journal => 5 | .arch => 6 | .rehearsal => 7

def allNoticeTypes : List NoticeType := [.halt, .restart, .ticket, .stall, .availability, .journal, .arch, .rehearsal]

/-- Notices use 0x60 to 0x67 (R193). -/
def noticeCode (t : NoticeType) : Byte := BitVec.ofNat 8 (0x60 + noticeIndex t)

/-- Arch kinds from 1 in the order of the arch record's table (R195). -/
def archKindCode : ArchKind → Nat
  | .lift => 1 | .reachLeft => 2 | .reachRight => 3 | .spray => 4 | .unused => 5

def archKindOf : Nat → Option ArchKind
  | 1 => some .lift | 2 => some .reachLeft | 3 => some .reachRight | 4 => some .spray | 5 => some .unused | _ => none

/-- Trip policies from 1: HALT, SKIP_CAR (R195). -/
def policyCode : TripPolicy → Nat
  | .halt => 1 | .skipCar => 2

def policyOf : Nat → Option TripPolicy
  | 1 => some .halt | 2 => some .skipCar | _ => none

/-- Initial service from 1 as the arch record's table lists it: IN, OUT (R195). -/
def initialCode (out : Bool) : Nat := if out then 2 else 1

def initialOf : Nat → Option Bool
  | 1 => some false | 2 => some true | _ => none

/-- The setting of SET_ARCH_SERVICE from 1 as R49 lists it: OUT, IN (R195); true for OUT. -/
def settingOf : Nat → Option Bool
  | 1 => some true | 2 => some false | _ => none

/-- Arch phases from 1 in the order of the table of phases (R195). -/
def archPhaseCode : ArchPhase → Nat
  | .parked => 1 | .following => 2 | .spraying => 3 | .returning => 4 | .jammed => 5

/-- Event kinds from 1: ENGAGE, RELEASE (R195). -/
def eventKindCode : EventKind → Nat
  | .engage => 1 | .release => 2

/-- Gauges from 1: TOP, LEFT, RIGHT (R195); the answer is the table's place. -/
def gaugeOf : Nat → Option (Fin 3)
  | 1 => some 0 | 2 => some 1 | 3 => some 2 | _ => none

/-- Discount kinds from 1: NONE, AMOUNT, PERCENT (R195). -/
def discountKindCode : DiscountKind → Nat
  | .none => 1 | .amount => 2 | .percent => 3

def discountKindOf : Nat → Option DiscountKind
  | 1 => some .none | 2 => some .amount | 3 => some .percent | _ => none

/-- Tenders (R194). -/
def tenderCode : Tender → Nat
  | .cash => 1 | .card => 2 | .account => 3

def tenderOf : Nat → Option Tender
  | 1 => some .cash | 2 => some .card | 3 => some .account | _ => none

/-- Ticket states from 1 in the order of the ticket table (R195). -/
def ticketStateCode : TicketState → Nat
  | .held => 1 | .paid => 2 | .called => 3 | .stalled => 4

/-- A ticket that has left the queue, in a ticket notice (R120; log entry 20). -/
def removedCode : Nat := 5

/-- Tunnel states from 1 in the order of the table of states (R195). -/
def tunnelStateCode : TunnelState → Nat
  | .closed => 1 | .opened => 2 | .closing => 3 | .halted => 4 | .restarting => 5 | .rehearsal => 6

/-- Halt causes from 1 in the order of the table of causes (R195). -/
def causeCode : Cause → Nat
  | .estop => 1 | .manual => 2 | .encoderSlip => 3 | .conveyorReverse => 4 | .conveyorStall => 5 | .loadTrip _ _ => 6
  | .slewDeficit _ _ => 7 | .archJam _ => 8 | .closeFollow _ => 9 | .tableFullEntry => 10 | .carMissing _ => 11
  | .strayExit => 12 | .entryInRehearsal => 13

/-- The arch a cause names (07_tunnel_states_halts_and_restart.md, Halt causes). -/
def causeArch : Cause → Option (Fin 12)
  | .loadTrip a _ => some a
  | .slewDeficit a _ => some a
  | .archJam a => some a
  | _ => none

/-- The car a cause names. -/
def causeCar : Cause → Option Nat
  | .loadTrip _ c => some c
  | .slewDeficit _ c => some c
  | .closeFollow c => some c
  | .carMissing c => some c
  | _ => none

/-- Why the tunnel state changed, in the order of R124. -/
inductive ChangeReason where
  | openTunnel | closeTunnel | clearTunnel | restart | rehearse | tableEmpty | cause | window | rehearsalEnd
  deriving DecidableEq, Repr

def reasonCode : ChangeReason → Nat
  | .openTunnel => 1 | .closeTunnel => 2 | .clearTunnel => 3 | .restart => 4 | .rehearse => 5 | .tableEmpty => 6
  | .cause => 7 | .window => 8 | .rehearsalEnd => 9

/-- Outcomes (R194). -/
def outcomeCode : WashOutcome → Nat
  | .complete => 1 | .partly => 2 | .pulled => 3 | .cleared => 4 | .voided => 5 | .resetLost => 6

/-- An outcome's place among the counts by outcome (R146). -/
def outcomeIndex : WashOutcome → Fin 6
  | .complete => 0 | .partly => 1 | .pulled => 2 | .cleared => 3 | .voided => 4 | .resetLost => 5

/-- Bank letters (R194). -/
def bankCode : BankId → Nat
  | .bankA => 1 | .bankB => 2

def bankOf : Nat → Option BankId
  | 1 => some .bankA | 2 => some .bankB | _ => none

/-- Bank states (R194). -/
def bankStateCode : BankState → Nat
  | .active => 1 | .draining => 2 | .sealed => 3 | .empty => 4

/-- Arch statuses, 0 for none (R194). -/
def archStatusCode : Option ArchStatus → Nat
  | none => 0
  | some .pending => 1 | some .active => 2 | some .done => 3 | some .skipped => 4 | some .omitted => 5

/-- Service results (R194). -/
def resultCode : ServiceResult → Nat
  | .done => 1 | .skipped => 2 | .omitted => 3

/-- Profile states 0 to 4 (R194). -/
def profileStateCode : ProfileState → Nat
  | .waiting => 0 | .measuring => 1 | .complete => 2 | .truncated => 3 | .absent => 4

/-- Tags (R194). -/
def tagCode : Tag → Nat
  | .gaugeHold => 1 | .noProfile => 2 | .overlength => 3 | .closeFollow => 4 | .steep => 5 | .archTrip _ => 6
  | .archBusy => 7 | .halted => 8 | .shadowDeficit _ => 9 | .unbidden => 10 | .exitDuringHalt => 11 | .overflow => 12

/-- The low four bits of a tag: its arch, or 0xF (R194). -/
def tagArch : Tag → Nat
  | .archTrip a => a.val
  | .shadowDeficit a => a.val
  | _ => 15

/-- Receiver states from 1 in the order of their table (R195). -/
def receiverCode : Receiver → Nat
  | .hunt => 1 | .length => 2 | .body _ _ => 3 | .check _ _ => 4

/-- Save states from 1: IDLE, IN_FLIGHT (R195). -/
def saveStateCode : Option Save → Nat
  | none => 1
  | some _ => 2

/-- Save stages from 1: ERASING, WRITING, VERIFYING (R195). -/
def saveStageCode : SaveStage → Nat
  | .erasing => 1 | .writing => 2 | .verifying => 3

/-- Station modes from 1: IDLE, SEARCHING, SAMPLING (R195). -/
def watchCode : Watch → Nat
  | .idle => 1 | .searching _ => 2 | .sampling _ _ _ _ _ => 3

/-- Wheel states from 1: FRONT, REAR (R195). -/
def wheelCode : Wheel → Nat
  | .front => 1 | .rear _ => 2

/-- Lane signals from 1: GO, STOP (R195; log entry 45). -/
def signalCode (go : Bool) : Nat := if go then 1 else 2

/-- Run commands from 1: RUN, STOP (R195). -/
def runCode (run : Bool) : Nat := if run then 1 else 2

/-- Availabilities from 1: AVAILABLE, WITHDRAWN (R195). -/
def availabilityCode (available : Bool) : Nat := if available then 1 else 2

/-- A signed value is a 2-byte two's complement (R194). -/
def putSigned (i : Int) : List Byte := put16 (BitVec.ofInt 16 i).toNat

def putPos (p : Pos) : List Byte := put16 p.toNat

/-- A tag's byte: its code in the high four bits and its arch, or 0xF, in the low four (R194). -/
def tagByte (t : Tag) : Byte := BitVec.ofNat 8 (16 * tagCode t + tagArch t)

/-- A service result's byte: the service in the high four bits and the result in the low four (R194). -/
def resultByte (r : Nat × ServiceResult) : Byte := BitVec.ofNat 8 (16 * r.1 + resultCode r.2)

/-- Tags in a record or a snapshot: count kept, count not kept, four tag bytes (12_formats_and_connections.md). PRESUMED (log
entry 14): an unused tag byte is 0xFF. -/
def putTags (tags : List Tag) (lost : Nat) : List Byte :=
  put8 tags.length ++ put8 (min lost 255) ++ ((tags.map tagByte) ++ List.replicate maxTags 0xFF).take maxTags

/-- Extras in a record or a snapshot: a count, then 4 slots, unused slots 0xFF (12_formats_and_connections.md). -/
def putExtras (extras : List Nat) : List Byte :=
  put8 extras.length ++ ((extras.map (BitVec.ofNat 8)) ++ List.replicate 4 0xFF).take 4

/-- A taken cause: cause, arch, car, position (07_tunnel_states_halts_and_restart.md, Halt causes). -/
def putCause (c : TakenCause) : List Byte :=
  put8 (causeCode c.cause) ++ putOnes8 ((causeArch c.cause).map (·.val)) ++ putZero16 (causeCar c.cause) ++ putPos c.position

end Sys2Proof.Machine
end

