-- ==== Sys2Proof/Machine/Ops.lean ====
section
/-! DEFINITION. The named operations over the state that every block shares: finding and changing a car, an arch, a ticket and
a link; raising causes and notices; the frames that leave on a link. -/

namespace Sys2Proof.Machine

/-- The answer to a request: its status and the values that follow the flags byte (R175). -/
structure Reply where
  status : Status
  body : List Byte := []
  deriving DecidableEq, Repr

/-- A refusal carries only what its rule names (R175). -/
def refuse (st : Status) : Reply := { status := st }

/-! ## Cars -/

/-- The car with a number, if it is in the table. -/
def findCar (n : Nat) (s : State) : Option Car := s.entry.table.find? fun c => c.number == n

/-- A change to one car record of the table. -/
def modifyCar (n : Nat) (f : Car → Car) (s : State) : State :=
  { s with entry.table := s.entry.table.map fun c => if c.number = n then f c else c }

/-- A car takes a tag (R78): kept unless the list already holds it, appended while it holds fewer than 4, else counted. -/
def Car.addTag (t : Tag) (c : Car) : Car :=
  if t ∈ c.tags then c
  else if c.tags.length < maxTags then { c with tags := c.tags ++ [t] }
  else { c with tagsLost := c.tagsLost + 1 }

def tagCar (n : Nat) (t : Tag) (s : State) : State := modifyCar n (Car.addTag t) s

/-- A car's status for an arch is settled. -/
def setStatus (n : Nat) (a : Fin 12) (st : ArchStatus) (s : State) : State :=
  modifyCar n (fun c => { c with statuses := c.statuses.set a.val (some st) a.isLt }) s

/-- The newest car, at the end of the table (R75). -/
def newestCar (s : State) : Option Car := s.entry.table.getLast?

/-- The oldest car, at the head of the table (R75). -/
def oldestCar (s : State) : Option Car := s.entry.table.head?

/-- The numbers of cars in the table, in admission order. -/
def carNumbers (s : State) : List Nat := s.entry.table.map (·.number)

/-! ## Arches -/

def archAt (a : Fin 12) (s : State) : Arch := s.arches.get a

def modifyArch (a : Fin 12) (f : Arch → Arch) (s : State) : State := { s with arches := modifyAt s.arches a f }

def layoutAt (a : Fin 12) (s : State) : Layout := s.settings.layouts.get a

/-- The kinds that follow a car's profile. -/
def isFollowing : ArchKind → Bool
  | .lift => true
  | .reachLeft => true
  | .reachRight => true
  | .spray => false
  | .unused => false

/-- A following arch (00_scope.md, Terms). -/
def followingArch (a : Fin 12) (s : State) : Bool := isFollowing (layoutAt a s).kind

/-! ## Tickets -/

def findTicket (n : Nat) (s : State) : Option Ticket := s.sales.tickets.find? fun t => t.number == n

def modifyTicket (n : Nat) (f : Ticket → Ticket) (s : State) : State :=
  { s with sales.tickets := s.sales.tickets.map fun t => if t.number = n then f t else t }

/-- A ticket leaves the queue, its lane order and the stalled tickets (R109). -/
def dropTicket (n : Nat) (s : State) : State :=
  { s with
    sales.tickets := s.sales.tickets.filter fun t => t.number != n
    sales.laneOrders := mapAll (fun l => l.filter (· != n)) s.sales.laneOrders
    sales.stalled := s.sales.stalled.filter (· != n) }

/-- The lane count: the lane's tickets that are HELD, PAID or CALLED (R109). -/
def laneCount (l : Fin 3) (s : State) : Nat :=
  (s.sales.tickets.filter fun t => t.lane == l && t.state != .stalled).length

/-! ## Links -/

def linkAt (l : Fin 4) (s : State) : Link := s.links.get l

def modifyLink (l : Fin 4) (f : Link → Link) (s : State) : State := { s with links := modifyAt s.links l f }

def accessAt (l : Fin 4) (s : State) : Access := s.settings.access.get l

/-- A permission test (R178); in strap mode every one passes (R180). -/
def permitted (l : Fin 4) (p : Permission) (s : State) : Bool :=
  s.strap || inSet (accessAt l s).permissions (permissionBit p)

/-- EDIT for every region of a set (R178, R180). -/
def mayEditAll (l : Fin 4) (regions : Byte) (s : State) : Bool := s.strap || subset regions (accessAt l s).edit

/-- EDIT for at least one region (R102, R103). -/
def mayEditSome (l : Fin 4) (s : State) : Bool := s.strap || (accessAt l s).edit != 0

/-- EDIT for one region (R178). -/
def mayEdit (l : Fin 4) (region : Nat) (s : State) : Bool := s.strap || inSet (accessAt l s).edit region

/-- SELL for one region (R178). -/
def maySell (l : Fin 4) (region : Nat) (s : State) : Bool := s.strap || inSet (accessAt l s).sell region

/-- A frame on the line: sync, length, kind, body, and the check that makes the sum a multiple of 256
(12_formats_and_connections.md, Frames). -/
def frameBytes (kind : Byte) (body : List Byte) : List Byte :=
  let content := BitVec.ofNat 8 (body.length + 1) :: kind :: body
  0xA5 :: content ++ [-(content.foldl (· + ·) 0)]

/-- A frame is placed whole at the tail of the queue if there is room for it (R175, R176). -/
def hasRoom (k : Link) (frame : List Byte) : Bool := k.queue.length + frame.length ≤ transmitCapacity

/-! ## Causes and notices -/

/-- A cause is raised while a pitch is being handled; the Supervisor takes it when its turn comes (R63). -/
def raise (c : Cause) (s : State) : State := { s with raised := s.raised ++ [c] }

/-- An event gives rise to a notice (R176); it is offered to the links when the event has been handled. -/
def notify (t : NoticeType) (body : List Byte) (s : State) : State :=
  { s with outbox := s.outbox ++ [{ type := t, target := none, body := body }] }

/-- A ticket notice goes to the ticket's quoting link (R120). -/
def notifyLink (l : Fin 4) (body : List Byte) (s : State) : State :=
  { s with outbox := s.outbox ++ [{ type := .ticket, target := some l, body := body }] }

/-- A notice is offered to one link: placed if there is room and no response waits, else dropped with the notices-lost flag
(R176). -/
def offerNotice (n : Notice) (k : Link) : Link :=
  let frame := frameBytes (noticeCode n.type) n.body
  if k.waiting.isNone && hasRoom k frame then { k with queue := k.queue ++ frame } else { k with noticesLost := true }

/-- The links a notice is addressed to (R176): those subscribed to its type, and for a ticket notice the one link alone. -/
def addressed (n : Notice) (l : Fin 4) (s : State) : Bool :=
  inSet (accessAt l s).subscriptions (noticeIndex n.type) && (n.target.isNone || n.target == some l)

def sendNotice (s : State) (n : Notice) : State :=
  allLinks.foldl (fun t l => if addressed n l t then modifyLink l (offerNotice n) t else t) s

/-- The notices of an event in the order in which they are offered: by notice code, and within one type as they arose
(R176). -/
def noticeOrder (l : List Notice) : List Notice := allNoticeTypes.flatMap fun t => l.filter fun n => n.type == t

/-- Every notice of the event is offered (R176). -/
def flush (s : State) : State := (noticeOrder s.outbox).foldl sendNotice { s with outbox := [] }

/-! ## The flags byte and responses (R175) -/

/-- The flags byte of a response placed on a link (12_formats_and_connections.md, Frames). -/
def flagsByte (k : Link) (s : State) : Byte :=
  let bit (b : Bool) (n : Nat) : Nat := if b then 2 ^ n else 0
  BitVec.ofNat 8 (bit k.overrun 0 + bit k.noticesLost 1 + bit s.store.unconfigured 2 + bit s.store.dirty 3
    + bit s.store.invalid 4 + bit s.strap 5)

/-- A response as a frame: the request's kind plus 0x80, status, flags, body (R175, R193). -/
def responseFrame (r : Response) (k : Link) (s : State) : List Byte :=
  frameBytes (r.kind + 0x80) (put8 (statusCode r.status) ++ [flagsByte k s] ++ r.body)

/-- The response is placed: its flags are filled in, overrun and notices-lost are cleared, and the request ends (R175). -/
def placeResponse (l : Fin 4) (r : Response) (s : State) : State :=
  modifyLink l (fun k =>
    { k with queue := k.queue ++ responseFrame r k s, waiting := none, overrun := false, noticesLost := false }) s

/-- A response is offered to the transmit queue: placed if there is room, else it waits and the request stays in progress
(R175). -/
def offerResponse (l : Fin 4) (r : Response) (s : State) : State :=
  if hasRoom (linkAt l s) (responseFrame r (linkAt l s) s) then placeResponse l r s
  else modifyLink l (fun k => { k with waiting := some r }) s

/-! ## Timers -/

/-- A timer has run out: it runs, and no unit is left of it. An expiry that finds units left does not happen (R11; log entry
6). -/
def ranOut (timer : Option Nat) : Bool := timer == some 0

/-! ## Settings -/

/-- A settings edit has been taken: the store's dirty flag is set (R185). -/
def markDirty (s : State) : State := { s with store.dirty := true }

/-- The name of a service, blank where it has none (R99). -/
def serviceName (n : Nat) (s : State) : List Byte := lookup s.settings.services n []

/-- The speed of a class in pitches per second. -/
def speedOf (site : Site) (c : Nat) : Nat := site.speeds.toList.getD (c - 1) 0

end Sys2Proof.Machine
end

