-- ==== Sys2Proof/Machine/Following.lean ====
section
/-! DEFINITION. The following computation of one arch on one car (R55 to R63). -/

namespace Sys2Proof.Machine

/-- The series an arch kind follows: top, left or right (03_arch_channels.md, The arch record). -/
def seriesOf (k : ArchKind) (x : Sample) : Nat :=
  match k with
  | .lift => x.top
  | .reachLeft => x.left
  | .reachRight => x.right
  | .spray => 0
  | .unused => 0

/-- The car coordinate u = P − O − A, read as signed (R56). -/
def carCoordinate (p origin : Pos) (offset : Nat) : Int := signedDiff p (advance origin offset)

/-- The interpolated value I(x) of a series (R57). -/
def interpolate (series : List Nat) (x : Int) : Nat :=
  let n := series.length
  if x ≤ 0 then series.getD 0 0
  else if ((samplePitch * (n - 1) : Nat) : Int) ≤ x then series.getD (n - 1) 0
  else
    let k := x.toNat / samplePitch
    let r := x.toNat % samplePitch
    if r = 0 then series.getD k 0
    else (series.getD k 0 * (samplePitch - r) + series.getD (k + 1) 0 * r + 4) / samplePitch

/-- The window value V: the largest of I(u), I(u + W) and the samples strictly between (R58). -/
def windowValue (series : List Nat) (u : Int) (w : Nat) : Nat :=
  let between := (List.range series.length).filter fun k =>
    decide (u < ((samplePitch * k : Nat) : Int)) && decide (((samplePitch * k : Nat) : Int) < u + w)
  (between.map fun k => series.getD k 0).foldl max (max (interpolate series u) (interpolate series (u + w)))

/-- The target T: V less the press, clamped to the arch's range (R60). -/
def targetOf (layout : Layout) (v press : Nat) : Nat := clampTo layout.minimum layout.maximum ((v : Int) - press)

/-- The step limit (R61). -/
def stepLimit (slew speed : Nat) : Nat := max 1 (slew / speed)

/-- The new command C' (R62). -/
def newCommand (target command step : Nat) : Nat :=
  if command < target then min target (command + step)
  else if target < command then max target (command - step)
  else command

/-- The deficit D = (I(u) − press) − C' (R63). -/
def deficitOf (i press command : Nat) : Int := ((i : Int) - press) - command

/-- The press held for a service in a car's services list (R60). -/
def pressFor (services : List ServicePress) (service : Nat) : Nat :=
  ((services.find? fun x => x.service == service).map (·.press)).getD 0

/-- What one following computation yields: target, command and deficit. -/
structure Followed where
  target : Nat
  command : Nat
  deficit : Int
  deriving DecidableEq, Repr

/-- The following computation (R55): car coordinate, interpolation, window value, target, step limit, command, deficit. -/
def followCar (layout : Layout) (speed : Nat) (command : Nat) (p : Pos) (origin : Pos) (car : Car) : Followed :=
  let series := car.samples.map (seriesOf layout.kind)
  let u := carCoordinate p origin layout.offset
  let press := pressFor car.services layout.service
  let target := targetOf layout (windowValue series u layout.lookAhead) press
  let moved := newCommand target command (stepLimit layout.slew speed)
  { target := target, command := moved, deficit := deficitOf (interpolate series u) press moved }

end Sys2Proof.Machine
end

