-- ==== Sys2Proof/Machine/Tracker.lean ====
section
/-! DEFINITION. The Conveyor Tracker's own state: pitches, the run command, the stall timer, the commanded and the settle class
(R1 to R13). -/

namespace Sys2Proof.Machine

/-- The fastest of a class and the classes of a list (R12). -/
def fastest (c : Nat) (l : List Nat) : Nat := l.foldl max c

/-- The stall timer's full time in 10 ms units (R10). -/
def fullStall (s : State) : Nat := s.settings.site.stallTime * unitsPerSecond

/-- The tracker's update of P, H, the rollback flag and the stall timer for a forward pitch (R2). -/
def Tracker.forwardPosition (allowance stall : Nat) (t : Tracker) : Tracker :=
  let pos := advance t.pos 1
  let high := if 0 < signedDiff pos t.high then pos else t.high
  { t with
    pos := pos
    high := high
    rolledBack := t.rolledBack && !decide (signedDiff high pos ≤ allowance)
    stall := t.stall.map fun _ => stall }

/-- The settle window and the settle class brought up to date for a forward pitch (R12). -/
def Tracker.settlePitch (t : Tracker) : Tracker :=
  let appended := t.window ++ [t.interval]
  let window := if settleDistance < appended.length then appended.drop 1 else appended
  { t with window := window, interval := t.commanded, settle := fastest t.commanded window }

/-- The whole of the tracker's update for a forward pitch (R2, R12). -/
def Tracker.forward (allowance stall : Nat) (t : Tracker) : Tracker := (t.forwardPosition allowance stall).settlePitch

/-- A reverse pitch lowers P and nothing else (R4). -/
def Tracker.reverse (t : Tracker) : Tracker := { t with pos := retreat t.pos 1 }

/-- The Pace Selector hands down a class (R9, R13). -/
def Tracker.handDown (c : Nat) (t : Tracker) : Tracker :=
  if c = t.commanded then t
  else
    let interval := max t.interval c
    { t with commanded := c, interval := interval, settle := fastest interval t.window }

def handDown (c : Nat) (s : State) : State := { s with tracker := s.tracker.handDown c }

/-- The condition under which the run command is RUN (R7). -/
def runWanted (s : State) : Bool :=
  match s.supervisor.tunnel with
  | .opened => !s.entry.table.isEmpty || s.entry.call.isSome
  | .closing => !s.entry.table.isEmpty || s.entry.call.isSome
  | .rehearsal => true
  | .closed => false
  | .halted => false
  | .restarting => false

/-- The tracker re-evaluates its run command and starts or idles the stall timer (R8). -/
def evaluateRun (s : State) : State :=
  if runWanted s = s.tracker.run then s
  else if runWanted s then { s with tracker.run := true, tracker.stall := some (fullStall s) }
  else { s with tracker.run := false, tracker.stall := none }

end Sys2Proof.Machine
end

