-- ==== Sys2Proof/Machine/Pace.lean ====
section
/-! DEFINITION. The Pace Selector: each car's requirements and class, the following domain, the conveyor class and the applied
classes (R65 to R72). -/

namespace Sys2Proof.Machine

/-- The arches counted for a car: the following arches for which it holds a status (R66). -/
def countedArches (s : State) (c : Car) : List (Fin 12) :=
  allArches.filter fun a => followingArch a s && (c.statuses.get a).isSome

/-- A car is still to be followed: one of its following statuses is PENDING or ACTIVE (R69). -/
def stillFollowed (s : State) (c : Car) : Bool :=
  (countedArches s c).any fun a => c.statuses.get a == some .pending || c.statuses.get a == some .active

/-! ## The conveyor class -/

/-- The conveyor class: the smallest of the site cap class and the classes of the domain (R70). -/
def conveyorClass (s : State) : Nat :=
  ((s.entry.table.filter (·.inDomain)).map (·.cls)).foldl min s.settings.site.cap

/-- A car's applied class tracks down to the commanded class while it is in the domain (R72). -/
def Car.apply (commanded : Nat) (c : Car) : Car :=
  if c.inDomain then { c with applied := some (min (c.applied.getD commanded) commanded) } else c

/-- The Pace Selector recomputes the conveyor class, hands it down and updates the applied classes (R70, R72). -/
def recomputeClass (s : State) : State :=
  let c := conveyorClass s
  let t := handDown c s
  { t with entry.table := t.entry.table.map (Car.apply c) }

/-- The class applied that goes with a car's record: its applied class, or the commanded class (R72). -/
def classApplied (s : State) (c : Car) : Nat := c.applied.getD s.tracker.commanded

/-! ## A car's class -/

/-- The requirement that a rise between two samples demands of an arch (R66). -/
def riseRequirement (layout : Layout) (prev next : Sample) : Nat :=
  ceilDiv (seriesOf layout.kind next - seriesOf layout.kind prev) (samplePitch + layout.lookAhead)

/-- The requirements after one more pair of consecutive samples (R66). -/
def raiseRequirements (s : State) (prev next : Sample) (c : Car) : Car :=
  { c with
    requirements := (countedArches s c).foldl
      (fun v a => modifyAt v a fun r => max r (riseRequirement (layoutAt a s) prev next)) c.requirements }

/-- A class qualifies when every counted arch's step at its speed meets the requirement (R67). -/
def classQualifies (s : State) (c : Car) (k : Nat) : Bool :=
  (countedArches s c).all fun a =>
    decide (c.requirements.get a ≤ stepLimit (layoutAt a s).slew (speedOf s.settings.site k))

/-- The classes from a maximum down to 1. -/
def classesFrom : Nat → List Nat
  | 0 => []
  | n + 1 => (n + 1) :: classesFrom n

/-- The highest qualifying class from the plan's maximum down to 1; 1 if none qualifies (R67). -/
def classOf (s : State) (c : Car) : Nat := ((classesFrom c.maxClass).find? (classQualifies s c)).getD 1

/-- The class of a car is set, and the conveyor class recomputed if it differs (R67, R68). -/
def setClass (n : Nat) (k : Nat) (s : State) : State :=
  match findCar n s with
  | none => s
  | some c => if k = c.cls then s else recomputeClass (modifyCar n (fun c => { c with cls := k }) s)

/-- The car's class is computed from its requirements, with the tag STEEP if class 1 does not qualify (R67). -/
def computeClass (n : Nat) (s : State) : State :=
  match findCar n s with
  | none => s
  | some c => setClass n (classOf s c) (if classQualifies s c 1 || decide (Tag.steep ∈ c.tags) then s else tagCar n .steep s)

/-- The last two samples of a list. -/
def lastPair : List Sample → Option (Sample × Sample)
  | [] => none
  | [_] => none
  | [x, y] => some (x, y)
  | _ :: rest => lastPair rest

/-- A sample has been appended: requirements, then the class (R66, R67). -/
def paceSample (n : Nat) (s : State) : State :=
  match findCar n s with
  | none => s
  | some c =>
    match lastPair c.samples with
    | none => computeClass n s
    | some (prev, next) => computeClass n (modifyCar n (raiseRequirements s prev next) s)

/-- The requirements over every consecutive pair of a profile (R68). -/
def wholeRequirements (s : State) (c : Car) : Car :=
  (c.samples.zip (c.samples.drop 1)).foldl (fun c pair => raiseRequirements s pair.1 pair.2 c) c

/-! ## The following domain -/

/-- A car joins the domain if it holds a following status, and the class is recomputed (R69, R70). -/
def joinDomain (n : Nat) (s : State) : State :=
  match findCar n s with
  | none => s
  | some c =>
    if (countedArches s c).isEmpty then s else recomputeClass (modifyCar n (fun c => { c with inDomain := true }) s)

/-- A following status has been settled: the car leaves the domain when none is PENDING or ACTIVE any longer (R69). -/
def statusSettled (n : Nat) (s : State) : State :=
  match findCar n s with
  | none => s
  | some c =>
    if c.inDomain && !stillFollowed s c then recomputeClass (modifyCar n (fun c => { c with inDomain := false }) s) else s

end Sys2Proof.Machine
end

