-- ==== Sys2Proof/Machine/JournalOps.lean ====
section
/-! DEFINITION. The Wash Journal: records built, stored or overflowed, banks sealed, closed out and read (R145 to R159). -/

namespace Sys2Proof.Machine

def Journal.bank (b : BankId) (j : Journal) : Bank :=
  match b with
  | .bankA => j.bankA
  | .bankB => j.bankB

def otherBank : BankId → BankId
  | .bankA => .bankB
  | .bankB => .bankA

def bankAt (b : BankId) (s : State) : Bank := s.journal.bank b

def modifyBank (b : BankId) (f : Bank → Bank) (s : State) : State :=
  match b with
  | .bankA => { s with journal.bankA := f s.journal.bankA }
  | .bankB => { s with journal.bankB := f s.journal.bankB }

/-- The ACTIVE bank: one bank is ACTIVE at all times (R145). -/
def activeBank (s : State) : BankId := if s.journal.bankA.state = .active then .bankA else .bankB

/-- The cars in the table that carry a bank (R152, R157). -/
def carsOn (b : BankId) (s : State) : Nat := (s.entry.table.filter fun c => c.bank == some b).length

/-- A journal notice: kind, bank letter, contents (R162). -/
def journalNotice (kind : Nat) (b : BankId) (contents : List Byte) (s : State) : State :=
  notify .journal (put8 kind ++ put8 (bankCode b) ++ contents) s

/-- Kinds of journal notices, in the order of R162 (R194). -/
def closeoutKind : Nat := 1
def sealedKind : Nat := 2
def fullKind : Nat := 3
def overflowKind : Nat := 4
def releasedKind : Nat := 5

/-! ## Building a record -/

/-- The removal kinds (R96). -/
inductive RemovalKind where
  | exit | pulled | cleared | resetLost
  deriving DecidableEq, Repr

/-- A service's result from the car's statuses at the arches whose service it is (R149). -/
def resolveService (s : State) (c : Car) (service : Nat) : ServiceResult :=
  let statuses := (allArches.filter fun a => (layoutAt a s).kind != .unused && (layoutAt a s).service == service).filterMap
    fun a => c.statuses.get a
  if statuses.isEmpty || statuses.any (· == .omitted) then .omitted
  else if statuses.all (· == .done) then .done
  else .skipped

/-- The service results, in the order of the car's services list (R149). -/
def serviceResults (s : State) (c : Car) : List (Nat × ServiceResult) :=
  c.services.map fun x => (x.service, resolveService s c x.service)

/-- The outcome of a car's record (R150). -/
def resolveOutcome (kind : RemovalKind) (results : List (Nat × ServiceResult)) : WashOutcome :=
  match kind with
  | .exit => if results.all fun r => r.2 == .done then .complete else .partly
  | .pulled => .pulled
  | .cleared => .cleared
  | .resetLost => .resetLost

/-- The measured length: 8(n − 1) for a COMPLETE or TRUNCATED profile, else absent (R148). -/
def measuredLength (c : Car) : Option Nat :=
  match c.profile with
  | .complete => some (samplePitch * (c.samples.length - 1))
  | .truncated => some (samplePitch * (c.samples.length - 1))
  | .waiting => none
  | .measuring => none
  | .absent => none

/-- The record of a car removed from the table (R148); the sequence is given when it is stored. -/
def carRecord (s : State) (c : Car) (kind : RemovalKind) (applied : Nat) : JournalRecord :=
  let results := serviceResults s c
  { sequence := 0, ticket := c.ticket, car := some c.number, lane := c.lane, plan := c.plan, extras := c.extras,
    slot := c.slot, total := c.total, tender := c.tender, outcome := resolveOutcome kind results,
    length := measuredLength c, cls := some applied, results := results, tags := c.tags, tagsLost := c.tagsLost,
    firstHalt := c.firstHalt }

/-- The record of a voided or lost ticket (R151). -/
def ticketRecord (t : Ticket) (outcome : WashOutcome) : JournalRecord :=
  { sequence := 0, ticket := some t.number, car := none, lane := some t.lane, plan := some t.plan, extras := t.extras,
    slot := t.slot, total := t.total, tender := t.tender, outcome := outcome, length := none, cls := none, results := [],
    tags := [], tagsLost := 0, firstHalt := none }

/-! ## Storing (R153, R154) -/

/-- A record's outcome is counted and its total added to the revenue total (R146, R153, R154). -/
def Bank.account (r : JournalRecord) (b : Bank) : Bank :=
  { b with
    counts := modifyAt b.counts (outcomeIndex r.outcome) fun n => (n + 1) % modulus32
    revenue := (b.revenue + r.total) % modulus64 }

/-- A bank with room stores a record under the next sequence (R153). -/
def Bank.store (r : JournalRecord) (b : Bank) : Bank :=
  { b.account r with
    records := b.records ++ [{ r with sequence := b.written + 1 }]
    written := b.written + 1
    unread := b.unread + 1 }

/-- A record takes the tag OVERFLOW (R154). -/
def JournalRecord.overflowTag (r : JournalRecord) : JournalRecord :=
  if r.tags.length < maxTags then { r with tags := r.tags ++ [.overflow] } else { r with tagsLost := r.tagsLost + 1 }

/-- The last record of a list is changed. -/
def changeLast (f : JournalRecord → JournalRecord) : List JournalRecord → List JournalRecord
  | [] => []
  | [r] => [f r]
  | r :: q :: rest => r :: changeLast f (q :: rest)

/-- A full bank counts a record without storing it; its first overflow alone tags its last record, whatever the count wraps to
(R154, R146). -/
def Bank.spill (r : JournalRecord) (b : Bank) : Bank :=
  let count := (b.overflow + 1) % modulus32
  { b.account r with
    overflow := count
    overflowed := true
    records := if b.overflowed then b.records else changeLast JournalRecord.overflowTag b.records }

/-- A record is submitted to a bank: stored, with a notice FULL at 256, or overflowed, with a notice OVERFLOW (R153, R154). -/
def submit (b : BankId) (r : JournalRecord) (s : State) : State :=
  if (bankAt b s).written < bankCapacity then
    let t := modifyBank b (Bank.store r) s
    if (bankAt b t).written = bankCapacity then journalNotice fullKind b [] t else t
  else
    journalNotice overflowKind b
      (put8 (outcomeCode r.outcome) ++ put32 r.total ++ putZero16 r.ticket ++ putZero16 r.car) (modifyBank b (Bank.spill r) s)

/-- A voided or lost ticket is counted as voided and submitted to the ACTIVE bank (R151). -/
def submitTicket (t : Ticket) (outcome : WashOutcome) (s : State) : State :=
  let b := activeBank s
  submit b (ticketRecord t outcome) (modifyBank b (fun k => { k with voided := (k.voided + 1) % modulus32 }) s)

/-- The notice SEALED carries records written, overflow count and revenue total (R157). -/
def sealedNotice (b : BankId) (s : State) : State :=
  let k := bankAt b s
  journalNotice sealedKind b (put16 k.written ++ put32 k.overflow ++ put64 k.revenue) s

/-- A DRAINING bank that no car carries any longer becomes SEALED (R157). -/
def sealIfDrained (b : BankId) (s : State) : State :=
  if (bankAt b s).state = .draining && carsOn b s = 0 then
    sealedNotice b (modifyBank b (fun k => { k with state := .sealed }) s)
  else s

/-- A removed car's record goes to its bank (R96 step 4, R148, R157). -/
def submitCar (c : Car) (kind : RemovalKind) (applied : Nat) (s : State) : State :=
  match c.bank with
  | none => s
  | some b => sealIfDrained b (submit b (carRecord s c kind applied) s)

/-- A car is admitted under its bank (R147). -/
def countAdmitted (b : BankId) (s : State) : State :=
  modifyBank b (fun k => { k with admitted := (k.admitted + 1) % modulus32 }) s

/-! ## Reading -/

/-- A journal record as READ_JOURNAL sends it (12_formats_and_connections.md). -/
def putRecord (r : JournalRecord) : List Byte :=
  putZero16 r.ticket ++ putZero16 r.car ++ putZero8 (r.lane.map laneNumber) ++ putOnes8 r.plan ++ putExtras r.extras
    ++ putOnes8 r.slot ++ put32 r.total ++ putZero8 (r.tender.map tenderCode) ++ put8 (outcomeCode r.outcome)
    ++ putOnes16 r.length ++ putZero8 r.cls ++ putZero16 r.firstHalt ++ putTags r.tags r.tagsLost
    ++ put8 r.results.length ++ r.results.map resultByte

/-- A bank header as it is sent, 51 bytes (12_formats_and_connections.md). -/
def putHeader (b : Bank) : List Byte :=
  put8 (bankStateCode b.state) ++ put16 b.written ++ put16 b.unread ++ put16 b.cursor ++ put32 b.overflow
    ++ put32 b.admitted ++ put32 b.voided ++ put64 b.revenue ++ b.counts.toList.flatMap put32

/-- The bytes that READ_JOURNAL's fixed part leaves for records (12_formats_and_connections.md). -/
def recordRoom : Nat := 62

/-- As many whole records as fit, up to a number (R194, R158). -/
def fittingRecords : Nat → Nat → List JournalRecord → List JournalRecord
  | 0, _, _ => []
  | _ + 1, _, [] => []
  | k + 1, room, r :: rest =>
    let size := (putRecord r).length
    if size ≤ room then r :: fittingRecords k (room - size) rest else []

end Sys2Proof.Machine
end

