-- ==== Sys2Proof/Machine/Availability.lean ====
section
/-! DEFINITION. Availability of plans and extras (R104, R105). -/

namespace Sys2Proof.Machine

/-- An arch provides its service (R104). -/
def provides (a : Fin 12) (s : State) : Bool :=
  (layoutAt a s).kind != .unused && !(archAt a s).outOfService && (archAt a s).phase != .jammed

/-- A service is covered when at least one arch provides it (R104). -/
def covered (service : Nat) (s : State) : Bool :=
  allArches.any fun a => (layoutAt a s).service == service && provides a s

/-- A plan is AVAILABLE when enabled with every service covered (R104). -/
def planAvailableNow (p : Plan) (s : State) : Bool := p.enabled && p.services.all fun x => covered x.service s

/-- An extra is judged in the same way (R104). -/
def extraAvailableNow (e : Extra) (s : State) : Bool := e.enabled && e.services.all fun x => covered x.service s

/-- Why availability was re-evaluated, in the order of R105. -/
inductive AvailabilityReason where
  | arch | edit
  deriving DecidableEq, Repr

def availabilityReasonCode : AvailabilityReason → Nat
  | .arch => 1 | .edit => 2

/-- The service names that fit a frame beside the other values of an availability notice (log entry 28). -/
def namesNoticed : Nat := 8

/-- The names of an item's services, in the order of its services list, as many whole names as fit (R99; log entry 28). -/
def putServiceNames (services : List ServicePress) (s : State) : List Byte :=
  putList (fun x : ServicePress => putName 12 (serviceName x.service s)) (services.take namesNoticed)

/-- An availability notice (R105): plan (1) or extra (2) (DEDUCED, log entry 50), number, name, availability, reason, then the names of
its services (R99). -/
def availabilityNotice (item number : Nat) (name : List Byte) (services : List ServicePress) (available : Bool)
    (r : AvailabilityReason) (s : State) : List Byte :=
  put8 item ++ put8 number ++ putName 16 name ++ put8 (availabilityCode available) ++ put8 (availabilityReasonCode r)
    ++ putServiceNames services s

/-- The notice of a plan's availability as it stands. -/
def planNotice (r : AvailabilityReason) (s : State) (i : Fin 24) : List Byte :=
  let p := s.settings.plans.get i
  availabilityNotice 1 i.val p.name p.services (s.sales.planAvailable.get i) r s

/-- The notice of an extra's availability as it stands. -/
def extraNotice (r : AvailabilityReason) (s : State) (i : Fin 8) : List Byte :=
  let e := s.settings.extras.get i
  availabilityNotice 2 i.val e.name e.services (s.sales.extraAvailable.get i) r s

/-- The availabilities as they are judged now (R104). -/
def setAvailability (s : State) : State :=
  { s with
    sales.planAvailable := tabulate fun i => planAvailableNow (s.settings.plans.get i) s
    sales.extraAvailable := tabulate fun i => extraAvailableNow (s.settings.extras.get i) s }

/-- Availability is re-evaluated; each plan, then each extra, whose availability differs is noticed (R105). -/
def reevaluate (r : AvailabilityReason) (s : State) : State :=
  let t := setAvailability s
  let plans := (List.finRange 24).filter fun i => t.sales.planAvailable.get i != s.sales.planAvailable.get i
  let extras := (List.finRange 8).filter fun i => t.sales.extraAvailable.get i != s.sales.extraAvailable.get i
  extras.foldl (fun u i => notify .availability (extraNotice r t i) u)
    (plans.foldl (fun u i => notify .availability (planNotice r t i) u) t)

end Sys2Proof.Machine
end

