-- ==== Sys2Proof/Machine/Arch.lean ====
section
/-! DEFINITION. The Arch Channels: returns, event lists, engage and release, load trips, the pitch (R34 to R54, R64, R166). -/

namespace Sys2Proof.Machine

/-! ## Layout checks (R34) -/

/-- The layout checks over one used arch. -/
def archLayoutOk (site : Site) (r : Layout) : Bool :=
  r.kind == .unused ||
    (decide (site.gaugeOffset + 8 ≤ r.offset)
      && (!isFollowing r.kind || decide (site.gaugeOffset + r.lookAhead + 8 ≤ r.offset))
      && decide (r.offset + r.trail + 16 + site.exitTolerance < site.exitOffset)
      && decide (r.lead + r.trail + 150 ≤ site.gap))

/-- The layout checks over every used arch. -/
def layoutChecks (layouts : Vector Layout 12) (site : Site) : Bool := allArches.all fun a => archLayoutOk site (layouts.get a)

/-- The layout is valid: present, and passing the checks under the site parameters now in force. -/
def layoutValid (s : State) : Bool := s.store.layoutPresent && layoutChecks s.settings.layouts s.settings.site

/-! ## Returns and outputs -/

/-- The return timer's full time in 10 ms units (R48). -/
def fullReturn (site : Site) : Nat := site.returnTimeout * unitsPerSecond

/-- An arch lets its car go and starts a return (R48, R37, R45): a following arch is commanded home and is RETURNING, or PARKED
at once if its home switch reads closed; a spray arch turns off and is PARKED. -/
def Arch.goHome (layout : Layout) (site : Site) (x : Arch) : Arch :=
  let free := { x with engaged := none, overOnce := false }
  if isFollowing layout.kind then
    if x.homeClosed then { free with command := layout.maximum, phase := .parked, timer := none }
    else { free with command := layout.maximum, phase := .returning, timer := some (fullReturn site) }
  else { free with phase := .parked, timer := none }

def startReturn (a : Fin 12) (s : State) : State := modifyArch a (Arch.goHome (layoutAt a s) s.settings.site) s

/-- What an arch's actuator line carries (R36). -/
inductive ActuatorOutput where
  /-- A following arch's position in millimetres. -/
  | position (mm : Nat)
  /-- A spray arch's level. -/
  | spray (on : Bool)
  /-- An UNUSED arch drives nothing. -/
  | idle
  deriving DecidableEq, Repr

/-- The actuator output (R36): the command while FOLLOWING, on while SPRAYING, home and off otherwise and in a rehearsal. -/
def actuatorOutput (a : Fin 12) (s : State) : ActuatorOutput :=
  let layout := layoutAt a s
  let x := archAt a s
  let shadow := s.supervisor.tunnel == .rehearsal
  match layout.kind with
  | .unused => .idle
  | .spray => .spray (x.phase == .spraying && !shadow)
  | .lift => .position (if x.phase == .following && !shadow then x.command else layout.maximum)
  | .reachLeft => .position (if x.phase == .following && !shadow then x.command else layout.maximum)
  | .reachRight => .position (if x.phase == .following && !shadow then x.command else layout.maximum)

/-- Reasons of arch notices, in the order of R53. -/
inductive ArchReason where
  | trips | jam | cleared | operator
  deriving DecidableEq, Repr

def archReasonCode : ArchReason → Nat
  | .trips => 1 | .jam => 2 | .cleared => 3 | .operator => 4

/-- An arch notice (R53): reason, arch, phase, out-of-service flag, trip count after the change, then the name of the arch's service
(R99; log entry 28). -/
def archNotice (r : ArchReason) (a : Fin 12) (s : State) : State :=
  let x := archAt a s
  notify .arch (put8 (archReasonCode r) ++ put8 a.val ++ put8 (archPhaseCode x.phase) ++ putFlag x.outOfService ++ put8 x.trips
    ++ putName 12 (serviceName (layoutAt a s).service s)) s

/-! ## Event lists -/

/-- The order of two entries (R40): by signed distance from P, then the three lines of its table. -/
def eventBefore (p : Pos) (cars : List Nat) (x y : ArchEvent) : Bool :=
  let dx := signedDiff x.position p
  let dy := signedDiff y.position p
  if dx < dy then true
  else if dy < dx then false
  else if x.car = y.car then x.kind == .engage && y.kind == .release
  else
    match x.kind, y.kind with
    | .release, .engage => true
    | .engage, .release => false
    | .engage, .engage => decide (cars.idxOf x.car < cars.idxOf y.car)
    | .release, .release => decide (cars.idxOf x.car < cars.idxOf y.car)

/-- An entry takes its place in a list kept in order. -/
def placeEvent (p : Pos) (cars : List Nat) (e : ArchEvent) : List ArchEvent → List ArchEvent
  | [] => [e]
  | x :: rest => if eventBefore p cars e x then e :: x :: rest else x :: placeEvent p cars e rest

/-- A list kept in order of position, each read as its signed distance from P (R40). -/
def orderEvents (p : Pos) (cars : List Nat) (l : List ArchEvent) : List ArchEvent :=
  l.foldl (fun acc e => placeEvent p cars e acc) []

/-- An arch's event list as it stands (R40). -/
def eventList (a : Fin 12) (s : State) : List ArchEvent := orderEvents s.tracker.pos (carNumbers s) (archAt a s).events

/-- An entry is inserted into an arch's list (R38, R39). -/
def insertEvent (a : Fin 12) (e : ArchEvent) (s : State) : State :=
  let l := placeEvent s.tracker.pos (carNumbers s) e (eventList a s)
  modifyArch a (fun x => { x with events := l }) s

/-- O + A − lead (R38). -/
def engagePosition (origin : Pos) (r : Layout) : Pos := retreat (advance origin r.offset) r.lead

/-- O + A + length + trail, the length being 8(n − 1) or the nominal one (R39). -/
def releasePosition (origin : Pos) (length : Nat) (r : Layout) : Pos :=
  advance (advance (advance origin r.offset) length) r.trail

/-- The arches, UNUSED ones left out, at which a car's status passes a test. -/
def archesWith (c : Car) (p : Option ArchStatus → Bool) (s : State) : List (Fin 12) :=
  allArches.filter fun a => (layoutAt a s).kind != .unused && p (c.statuses.get a)

/-- Each arch for which the car holds a PENDING status inserts an ENGAGE at O + A − lead (R38). -/
def insertEngages (n : Nat) (s : State) : State :=
  match findCar n s with
  | none => s
  | some c =>
    match c.origin with
    | none => s
    | some o =>
      (archesWith c (· == some .pending) s).foldl
        (fun t a => insertEvent a { position := engagePosition o (layoutAt a s), car := n, kind := .engage } t) s

/-- The sampled length 8(n − 1) of a final profile (R39). -/
def sampledLength (c : Car) : Nat := samplePitch * (c.samples.length - 1)

/-- Each arch into whose list an ENGAGE for the car was inserted inserts a RELEASE (R39): every arch for which the car holds a
status, since all its statuses are PENDING when its origin is set (R69). -/
def insertReleases (n : Nat) (s : State) : State :=
  match findCar n s with
  | none => s
  | some c =>
    match c.origin with
    | none => s
    | some o =>
      (archesWith c (·.isSome) s).foldl
        (fun t a => insertEvent a
          { position := releasePosition o (sampledLength c) (layoutAt a s), car := n, kind := .release } t) s

/-- An ABSENT car's following statuses are SKIPPED, and its spray arches insert both entries with the nominal length (R22,
R39). -/
def insertAbsent (n : Nat) (s : State) : State :=
  match findCar n s with
  | none => s
  | some c =>
    match c.origin with
    | none => s
    | some o =>
      let s := (countedArches s c).foldl (fun t a => setStatus n a .skipped t) s
      let sprays := (archesWith c (· == some .pending) s).filter fun a => (layoutAt a s).kind == .spray
      sprays.foldl (fun t a =>
        insertEvent a { position := releasePosition o nominalLength (layoutAt a s), car := n, kind := .release }
          (insertEvent a { position := engagePosition o (layoutAt a s), car := n, kind := .engage } t)) s

/-- One arch removes every entry of a car that has left the table and, if engaged with it, starts a return (R41). -/
def purgeArch (n : Nat) (s : State) (a : Fin 12) : State :=
  let s := modifyArch a (fun x => { x with events := x.events.filter fun e => e.car != n }) s
  if (archAt a s).engaged = some n then startReturn a s else s

def purgeCar (n : Nat) (s : State) : State := allArches.foldl (purgeArch n) s

/-- At CLEAR_TUNNEL every list is emptied and every arch not PARKED, JAMMED or RETURNING starts a return (R41). -/
def clearArch (s : State) (a : Fin 12) : State :=
  let s := modifyArch a (fun x => { x with events := [] }) s
  match (archAt a s).phase with
  | .following => startReturn a s
  | .spraying => startReturn a s
  | .parked => s
  | .returning => s
  | .jammed => s

/-! ## Engage and release -/

/-- The tunnel is stopped by a halt: HALTED or RESTARTING. -/
def stopped (s : State) : Bool := s.supervisor.tunnel == .halted || s.supervisor.tunnel == .restarting

/-- A status that is settled at a following arch is handed to the Pace Selector (R43, R44, R69). -/
def handStatus (a : Fin 12) (n : Nat) (s : State) : State := if followingArch a s then statusSettled n s else s

/-- The arch takes the car: over count 0, return timer stopped, FOLLOWING or SPRAYING, the command where it stands (R43). -/
def Arch.take (layout : Layout) (n : Nat) (x : Arch) : Arch :=
  { x with
    engaged := some n
    overOnce := false
    timer := none
    phase := if isFollowing layout.kind then .following else .spraying }

/-- An ENGAGE entry fires: the PENDING status is settled by the first line of R43 that applies. -/
def fireEngage (a : Fin 12) (n : Nat) (s : State) : State :=
  match findCar n s with
  | none => s
  | some c =>
    if c.statuses.get a != some .pending then s
    else
      let x := archAt a s
      if x.outOfService || x.phase == .jammed then handStatus a n (setStatus n a .omitted s)
      else if stopped s then handStatus a n (tagCar n .halted (setStatus n a .skipped s))
      else if x.engaged.isSome then handStatus a n (tagCar n .archBusy (setStatus n a .skipped s))
      else modifyArch a (Arch.take (layoutAt a s) n) (setStatus n a .active s)

/-- A RELEASE entry fires (R44): ACTIVE becomes DONE and clears the trip count; the arch lets the car go if engaged with it. -/
def fireRelease (a : Fin 12) (n : Nat) (s : State) : State :=
  let t := if (archAt a s).engaged = some n then startReturn a s else s
  match findCar n s with
  | none => t
  | some c =>
    if c.statuses.get a = some .active then
      handStatus a n (setStatus n a .done (modifyArch a (fun x => { x with trips := 0 }) t))
    else t

def fireEvent (a : Fin 12) (s : State) (e : ArchEvent) : State :=
  match e.kind with
  | .engage => fireEngage a e.car s
  | .release => fireRelease a e.car s

/-- The first step of an arch on a pitch (R42): its due entries, of those in the list before the pitch, fire in order. -/
def fireDue (a : Fin 12) (p : Pos) (before : List ArchEvent) (s : State) : State :=
  let list := eventList a s
  let due (e : ArchEvent) : Bool := reached p e.position && decide (e ∈ before)
  (list.filter due).foldl (fireEvent a)
    (modifyArch a (fun x => { x with events := list.filter fun e => !due e }) s)

/-! ## Load check and trips -/

/-- A third consecutive trip sets the out-of-service flag (R47). -/
def tripsOut (a : Fin 12) (s : State) : State :=
  if (archAt a s).trips = 3 && !(archAt a s).outOfService then
    reevaluate .arch (archNotice .trips a (modifyArch a (fun x => { x with outOfService := true }) s))
  else s

/-- An arch trips on its car (R46, R47). -/
def trip (a : Fin 12) (n : Nat) (s : State) : State :=
  let s := startReturn a s
  let s := handStatus a n (tagCar n (.archTrip a) (setStatus n a .skipped s))
  let s := modifyArch a (fun x => { x with trips := min (x.trips + 1) 3 }) s
  let s := if (layoutAt a s).policy = .halt then raise (.loadTrip a n) s else s
  tripsOut a s

/-- The second step of an arch on a pitch: a FOLLOWING arch checks its load, but not in REHEARSAL (R42, R45). -/
def loadCheck (a : Fin 12) (s : State) : State :=
  let x := archAt a s
  match x.engaged with
  | none => s
  | some n =>
    if x.phase != .following || s.supervisor.tunnel == .rehearsal then s
    else
      let isOver := decide ((layoutAt a s).tripThreshold ≤ x.loadLine)
      let s := modifyArch a (fun x => { x with loadRead := x.loadLine, overOnce := isOver }) s
      if isOver && x.overOnce then trip a n s else s

/-! ## The following computation on a pitch -/

/-- The traced arch's computation appends an entry to the ring (R166). -/
def writeTrace (a : Fin 12) (p : Pos) (f : Followed) (s : State) : State :=
  if s.rehearsal.traced = some a && decide (s.rehearsal.written < count16Max) then
    let n := s.rehearsal.written + 1
    let ring := s.trace ++ [{ number := n, position := p, target := f.target, command := f.command, deficit := f.deficit }]
    { s with rehearsal.written := n, trace := if traceCapacity < ring.length then ring.drop 1 else ring }
  else s

/-- A car takes its first shadow deficit at an arch (R64); later ones at the same arch add no tag. -/
def Car.shadowTag (a : Fin 12) (c : Car) : Car :=
  if a ∈ c.shadowed then c else { c.addTag (.shadowDeficit a) with shadowed := a :: c.shadowed }

/-- What a computation leads to beyond the command: SLEW_DEFICIT (R63), or in REHEARSAL the trace and the shadow tag (R64). -/
def afterFollow (a : Fin 12) (n : Nat) (p : Pos) (f : Followed) (s : State) : State :=
  let isOver := decide (((layoutAt a s).margin : Int) < f.deficit)
  if s.supervisor.tunnel = .rehearsal then
    let s := writeTrace a p f s
    if isOver then modifyCar n (Car.shadowTag a) s else s
  else if isOver then raise (.slewDeficit a n) s
  else s

/-- The third step of an arch on a pitch: a FOLLOWING arch computes its new command (R42, R55). -/
def followStep (a : Fin 12) (p : Pos) (settle : Nat) (s : State) : State :=
  let x := archAt a s
  match x.engaged with
  | none => s
  | some n =>
    if x.phase != .following then s
    else
      match findCar n s with
      | none => s
      | some c =>
        match c.origin with
        | none => s
        | some o =>
          let f := followCar (layoutAt a s) (speedOf s.settings.site settle) x.command p o c
          afterFollow a n p f (modifyArch a (fun x => { x with command := f.command }) s)

/-- One arch acts on a forward pitch in its three steps (R42). -/
def archPitch (a : Fin 12) (p : Pos) (settle : Nat) (before : List ArchEvent) (s : State) : State :=
  followStep a p settle (loadCheck a (fireDue a p before s))

/-! ## Arches under a halt -/

/-- One arch withdraws from its car at a halt (R52). -/
def withdraw (s : State) (a : Fin 12) : State :=
  let x := archAt a s
  if x.phase == .following || x.phase == .spraying then
    let t := startReturn a s
    match x.engaged with
    | none => t
    | some n => handStatus a n (tagCar n .halted (setStatus n a .skipped t))
  else s

def withdrawAll (s : State) : State := allArches.foldl withdraw s

end Sys2Proof.Machine
end

