-- ==== Sys2Proof/Machine/StationOps.lean ====
section
/-! DEFINITION. The Profile Station: the search for a car's front, sampling, completion, truncation, absence (R16 to R28). -/

namespace Sys2Proof.Machine

/-- A reading mapped through a gauge's table; raw code 0 is no return (R16). -/
def gaugeReading (gauge : Fin 3) (code : Byte) (s : State) : Option Nat :=
  if code = 0 then none else some ((s.settings.gauges.get gauge).get ⟨code.toNat, code.isLt⟩)

/-- At or above the presence threshold (R20, R24). -/
def present (mm : Nat) (s : State) : Bool := decide (s.settings.site.presence ≤ mm)

/-- A gauge replacement is tagged GAUGE_HOLD the first time in a car (R21, R23). -/
def Car.holdTag (c : Car) : Car := if c.gaugeHeld then c else { c.addTag .gaugeHold with gaugeHeld := true }

def watching (w : Watch) (s : State) : State := { s with station.watch := w }

/-- The measured rear extent O + G + 8(n − 1) − anchor, read as signed (R28). -/
def measuredExtent (gaugeOffset : Nat) (origin : Pos) (c : Car) : Int :=
  signedDiff (advance (advance origin gaugeOffset) (sampledLength c)) c.anchor

/-- A profile becomes final with the samples it holds: rear extent, release entries, IDLE (R25, R26, R27, R28). -/
def finishProfile (n : Nat) (final : ProfileState) (s : State) : State :=
  let g := s.settings.site.gaugeOffset
  let s := modifyCar n (fun c =>
    { c with profile := final, rearExtent := measuredExtent g (c.origin.getD c.anchor) c }) s
  watching .idle (insertReleases n s)

/-- The trailing sample below the threshold is removed (R25, R27). -/
def dropTrailing (n : Nat) (s : State) : State := modifyCar n (fun c => { c with samples := c.samples.dropLast }) s

/-- The profile becomes ABSENT (R22). -/
def makeAbsent (n : Nat) (s : State) : State :=
  let s := modifyCar n (fun c =>
    { c.addTag .noProfile with profile := .absent, origin := some c.anchor }) s
  let s := insertAbsent n s
  let s := match findCar n s with
    | none => s
    | some c => setClass n c.maxClass s
  watching .idle s

/-- A present reading takes sample 0 and sets the origin (R21, R38, R67, R69). -/
def setOrigin (n : Nat) (p : Pos) (top : Nat) (g : GaugeCodes) (s : State) : State :=
  let left := gaugeReading 1 g.left s
  let right := gaugeReading 2 g.right s
  let sample : Sample := { top := top, left := left.getD widest, right := right.getD widest }
  let origin := retreat p s.settings.site.gaugeOffset
  let s := if left.isNone || right.isNone then modifyCar n Car.holdTag s else s
  let s := modifyCar n (fun c => { c with origin := some origin, samples := [sample], profile := .measuring }) s
  let s := watching (.sampling n p 1 false sample) s
  joinDomain n (computeClass n (insertEngages n s))

/-- A forward pitch in SEARCHING (R20). -/
def searchPitch (n : Nat) (p : Pos) (g : GaugeCodes) (s : State) : State :=
  match findCar n s with
  | none => s
  | some c =>
    let d := signedDiff p c.anchor
    let offset : Int := s.settings.site.gaugeOffset
    if d < offset - overhang then s
    else if d ≤ offset + lowNose then
      match gaugeReading 0 g.top s with
      | none => s
      | some top => if present top s then setOrigin n p top g s else s
    else makeAbsent n s

/-- A sample is appended and handed to the Pace Selector (R24, R66). -/
def appendSample (n : Nat) (x : Sample) (s : State) : State :=
  paceSample n (modifyCar n (fun c => { c with samples := c.samples ++ [x] }) s)

/-- A sample has been taken: appended, or the end of the profile (R24, R25, R26). -/
def handleSample (n : Nat) (first : Pos) (next : Nat) (absent : Bool) (x : Sample) (s : State) : State :=
  if present x.top s then
    if next < lastSample then watching (.sampling n first (next + 1) false x) (appendSample n x s)
    else finishProfile n .truncated (setClass n 1 (tagCar n .overlength (appendSample n x s)))
  else if absent then finishProfile n .complete (dropTrailing n s)
  else if next < lastSample then watching (.sampling n first (next + 1) true x) (appendSample n x s)
  else finishProfile n .complete s

/-- A forward pitch in SAMPLING (R23): the due sample is taken, a no-return replaced by the last value of its gauge. -/
def samplePitchStep (n : Nat) (first : Pos) (next : Nat) (absent : Bool) (last : Sample) (p : Pos) (g : GaugeCodes)
    (s : State) : State :=
  if reached p (advance first (samplePitch * next)) then
    let top := gaugeReading 0 g.top s
    let left := gaugeReading 1 g.left s
    let right := gaugeReading 2 g.right s
    let x : Sample := { top := top.getD last.top, left := left.getD last.left, right := right.getD last.right }
    let s := if top.isNone || left.isNone || right.isNone then modifyCar n Car.holdTag s else s
    handleSample n first next absent x s
  else s

/-- The station acts on a forward pitch (R20, R23). -/
def stationPitch (p : Pos) (g : GaugeCodes) (s : State) : State :=
  match s.station.watch with
  | .idle => s
  | .searching n => searchPitch n p g s
  | .sampling n first next absent last => samplePitchStep n first next absent last p g s

/-- The watched car is settled before a newer one is watched: a MEASURING profile is truncated for a close follow, a WAITING one
becomes ABSENT (R18, R27, R22). -/
def settleWatched (s : State) : State :=
  match s.station.watch with
  | .idle => s
  | .searching n => makeAbsent n s
  | .sampling n _ _ absent _ =>
    let s := if absent then dropTrailing n s else s
    finishProfile n .truncated (tagCar n .closeFollow s)

/-- The watched car has left the table (R19). -/
def unwatch (n : Nat) (s : State) : State :=
  match s.station.watch with
  | .idle => s
  | .searching m => if m = n then watching .idle s else s
  | .sampling m _ _ _ _ => if m = n then watching .idle s else s

end Sys2Proof.Machine
end

