-- ==== Sys2Proof/Machine/EntryOps.lean ====
section
/-! DEFINITION. Entry and Exit Control's shared operations: changes of the tunnel state and their notices, the gap, the calls, and
the removal of a car (R79 to R85, R96, R124). -/

namespace Sys2Proof.Machine

/-! ## Changes of the tunnel state (R124) -/

/-- Sub-kinds of halt notices, in the order of the notice table (10_station_links_and_access.md; log entry 15). -/
def stateChangeKind : Nat := 1
def furtherCauseKind : Nat := 2
def unbiddenKind : Nat := 3
def entryWhileClosedKind : Nat := 4

/-- The number of the halt in force, 0 for none. -/
def haltNumber (s : State) : Nat := (s.supervisor.halt.map (·.number)).getD 0

/-- Old state, new state, reason and halt number, as halt and restart notices carry them (R124, R142). -/
def changeBody (old new : TunnelState) (r : ChangeReason) (number : Nat) : List Byte :=
  put8 (tunnelStateCode old) ++ put8 (tunnelStateCode new) ++ put8 (reasonCode r) ++ put16 number

/-- The tunnel state changes, with a halt notice (R124). -/
def changeTunnel (new : TunnelState) (r : ChangeReason) (number : Nat) (more : List Byte) (s : State) : State :=
  notify .halt (put8 stateChangeKind ++ changeBody s.supervisor.tunnel new r number ++ more)
    { s with supervisor.tunnel := new }

/-- The tunnel state changes by a restart step, with a restart notice (R124). -/
def restartStep (new : TunnelState) (r : ChangeReason) (number : Nat) (more : List Byte) (s : State) : State :=
  notify .restart (changeBody s.supervisor.tunnel new r number ++ more) { s with supervisor.tunnel := new }

/-! ## The gap rule (R79) -/

/-- The gap is satisfied at a position: no car, or the newest car's anchor far enough behind. -/
def gapSatisfied (p : Pos) (s : State) : Bool :=
  match newestCar s with
  | none => true
  | some c => decide (c.rearExtent + s.settings.site.gap ≤ signedDiff p c.anchor)

/-- The gap as it stands now. -/
def gapNow (s : State) : Bool := gapSatisfied s.tracker.pos s

/-! ## Ticket notices (R120) -/

inductive TicketNoticeKind where
  | expired | voided | requeued | called | lapsed | stalled | returned | admitted
  deriving DecidableEq, Repr

def ticketNoticeCode : TicketNoticeKind → Nat
  | .expired => 1 | .voided => 2 | .requeued => 3 | .called => 4 | .lapsed => 5 | .stalled => 6 | .returned => 7 | .admitted => 8

/-- A ticket notice to the quoting link: kind, number, lane, the state the ticket is left in, lapse count (R120). -/
def ticketNotice (k : TicketNoticeKind) (t : Ticket) (left : Nat) (more : List Byte) (s : State) : State :=
  notifyLink t.link
    (put8 (ticketNoticeCode k) ++ put16 t.number ++ put8 (laneNumber t.lane) ++ put8 left ++ put8 t.lapses ++ more) s

/-! ## The entry arbiter (R80 to R85) -/

/-- A lane head that is eligible: its lane's presence loop is asserted (R80). -/
def eligibleHead (s : State) (l : Fin 3) : Option Ticket :=
  if s.entry.loops.get l then (s.sales.laneOrders.get l).head?.bind fun n => findTicket n s else none

/-- The ticket with the earliest confirmation sequence (R80). -/
def earliest : List Ticket → Option Ticket
  | [] => none
  | t :: rest =>
    match earliest rest with
    | none => some t
    | some u => if u.sequence.getD 0 < t.sequence.getD 0 then some u else some t

/-- The lane signal of a lane shows GO or STOP. -/
def setSignal (l : Fin 3) (go : Bool) (s : State) : State :=
  { s with entry.signals := s.entry.signals.set l.val go l.isLt }

/-- The call timer's full time in 10 ms units (R82). -/
def fullCall (s : State) : Nat := s.settings.site.callTimeout * unitsPerSecond

/-- A call is issued (R82). -/
def issueCall (t : Ticket) (s : State) : State :=
  let s := modifyTicket t.number (fun t => { t with state := .called }) s
  let s := setSignal t.lane true { s with entry.call := some { ticket := t.number, lane := t.lane, timer := fullCall s } }
  evaluateRun (ticketNotice .called t (ticketStateCode .called) [] s)

/-- The conditions under which a call is issued, but for an eligible head (R80). -/
def mayCall (gap : Bool) (s : State) : Bool :=
  s.supervisor.tunnel == .opened && s.entry.call.isNone && s.entry.remembered.isNone
    && decide (s.entry.table.length < maxCars) && gap

/-- The arbiter evaluates with the gap as given (R80). -/
def arbitrateWith (gap : Bool) (s : State) : State :=
  if mayCall gap s then
    match earliest (allLanes.filterMap (eligibleHead s)) with
    | none => s
    | some t => issueCall t s
  else s

/-- The arbiter evaluates (R80, R81). -/
def arbitrate (s : State) : State := arbitrateWith (gapNow s) s

/-- The outstanding call ends: call state cleared, the called lane's signal at STOP. -/
def endCall (k : Call) (s : State) : State := setSignal k.lane false { s with entry.call := none }

/-- An outstanding call is cancelled: the ticket is PAID at the head of its lane order again (R85). -/
def cancelCall (s : State) : State :=
  match s.entry.call with
  | none => s
  | some k =>
    let s := endCall k s
    match findTicket k.ticket s with
    | none => s
    | some t =>
      ticketNotice .returned t (ticketStateCode .paid) [] (modifyTicket k.ticket (fun t => { t with state := .paid }) s)

/-- The remembered ticket is forgotten and the grace timer becomes idle (R84). -/
def forget (s : State) : State := { s with entry.remembered := none }

/-- The remembered ticket is forgotten if it is the one named (R84). -/
def forgetTicket (n : Nat) (s : State) : State :=
  match s.entry.remembered with
  | none => s
  | some r => if r.ticket = n then forget s else s

/-! ## Removal (R96) -/

/-- In CLOSING, a removal that leaves the table empty makes the tunnel CLOSED (R127). -/
def closeIfEmpty (s : State) : State :=
  if s.supervisor.tunnel == .closing && s.entry.table.isEmpty then evaluateRun (changeTunnel .closed .tableEmpty 0 [] s) else s

/-- A car leaves the table and the removal is handed to the blocks that hold state for it (R96). The arbiter's evaluation, which
waits for the event's other effects (R81), is made by the event. -/
def removeCar (c : Car) (kind : RemovalKind) (s : State) : State :=
  let s := { s with entry.table := s.entry.table.filter fun k => k.number != c.number }
  let s := recomputeClass (unwatch c.number (purgeCar c.number s))
  let s := if c.phantom then s else submitCar c kind (classApplied s c) s
  closeIfEmpty (evaluateRun s)

/-- Every car is removed, oldest first (R140, R160). -/
def removeAll (kind : RemovalKind) (s : State) : State := s.entry.table.foldl (fun t c => removeCar ((findCar c.number t).getD c) kind t) s

end Sys2Proof.Machine
end

