-- ==== Sys2Proof/Machine/SupervisorOps.lean ====
section
/-! DEFINITION. The Tunnel Supervisor taking causes, and the end of a rehearsal (R130 to R134, R168 to R170). -/

namespace Sys2Proof.Machine

/-! ## A rehearsal's summary (R170) -/

/-- The phantom car, while it is in the table. -/
def phantomCar (s : State) : Option Car := s.entry.table.find? (·.phantom)

/-- A status as a summary reports it: ACTIVE and PENDING as SKIPPED (R170). -/
def summaryStatus : ArchStatus → ArchStatus
  | .pending => .skipped
  | .active => .skipped
  | .done => .done
  | .skipped => .skipped
  | .omitted => .omitted

/-- The summary of the rehearsal, from its phantom car as it stood (R170). -/
def summaryOf (ending : RunEnding) (c : Car) (s : State) : Summary :=
  { phantom := c.number, profile := s.rehearsal.profile.getD 0, samples := c.samples.length,
    plan := s.rehearsal.plan.getD 0, traced := s.rehearsal.traced, ending := ending, cls := c.cls,
    applied := classApplied s c,
    statuses := allArches.filterMap fun a => (c.statuses.get a).map fun st => (a, summaryStatus st),
    tags := c.tags, tagsLost := c.tagsLost, written := s.rehearsal.written }

/-- How a rehearsal ended, from 1: END, ABANDONED (R195). -/
def endingCode : RunEnding → Nat
  | .ended => 1
  | .abandoned _ => 2

def endingHalt : RunEnding → Nat
  | .ended => 0
  | .abandoned n => n

/-- A summary's values in the order of R170. DEDUCED (log entry 42): n takes one byte, as in a car snapshot. -/
def putSummary (m : Summary) : List Byte :=
  put16 m.phantom ++ put8 m.profile ++ put8 m.samples ++ put8 m.plan ++ putOnes8 (m.traced.map (·.val))
    ++ put8 (endingCode m.ending) ++ put16 (endingHalt m.ending) ++ put8 m.cls ++ put8 m.applied
    ++ putList (fun x : Fin 12 × ArchStatus => put8 x.1.val ++ put8 (archStatusCode (some x.2))) m.statuses
    ++ putList (fun t => [tagByte t]) m.tags ++ put8 (min m.tagsLost 255) ++ put16 m.written

/-- The rehearsal ends: its summary is made, sent and kept, and the running flag becomes no (R170). -/
def endRehearsal (ending : RunEnding) (c : Car) (s : State) : State :=
  let m := summaryOf ending c s
  notify .rehearsal (putSummary m) { s with rehearsal.running := false, rehearsal.last := some m }

/-! ## Causes (R130 to R133) -/

/-- The halt counter rises by 1, with 65,535 followed by 1 (R130). -/
def nextHalt (n : Nat) : Nat := if n ≥ 65535 then 1 else n + 1

/-- The resume state of a halt (R130). -/
def resumeState : TunnelState → TunnelState
  | .opened => .opened
  | .closing => .closing
  | .closed => .closed
  | .rehearsal => .closed
  | .halted => .closed
  | .restarting => .closed

/-- A cause as taken now: the position is P as it stands (07_tunnel_states_halts_and_restart.md, Halt causes). -/
def takenNow (c : Cause) (s : State) : TakenCause := { cause := c, position := s.tracker.pos }

/-- The halt record of a first cause (R130). -/
def newHalt (c : Cause) (s : State) : HaltRecord :=
  { number := nextHalt s.supervisor.haltCounter, first := takenNow c s, resume := resumeState s.supervisor.tunnel,
    further := [], furtherLost := 0, entries := 0, strays := 0, pulled := 0, refusals := 0 }

/-- In REHEARSAL a first cause makes the summary ABANDONED, from the phantom as it stood (R169). -/
def abandonRehearsal (number : Nat) (s : State) : State :=
  if s.supervisor.tunnel = .rehearsal then
    match phantomCar s with
    | none => s
    | some c => endRehearsal (.abandoned number) c s
  else s

/-- Each car whose first halt is absent takes the halt number (R131). -/
def markHalt (number : Nat) (s : State) : State :=
  { s with entry.table := s.entry.table.map fun c =>
      { c with firstHalt := match c.firstHalt with
        | none => some number
        | some n => some n } }

/-- The phantom car is removed at a halt (R131, R169). -/
def dropPhantom (s : State) : State :=
  match phantomCar s with
  | none => s
  | some c => removeCar c .cleared s

/-- A first cause: the halt record, the notice, and what the other blocks do on entering HALTED (R130, R131). -/
def firstCause (c : Cause) (s : State) : State :=
  let r := newHalt c s
  let s := abandonRehearsal r.number s
  let s := { s with supervisor.halt := some r, supervisor.haltCounter := r.number }
  let s := changeTunnel .halted .cause r.number (putCause r.first ++ put8 (tunnelStateCode r.resume)) s
  let s := withdrawAll (markHalt r.number s)
  let s := forget (cancelCall s)
  evaluateRun (dropPhantom s)

/-- A further cause is kept, or counted once four are kept (R132). -/
def HaltRecord.addFurther (c : TakenCause) (r : HaltRecord) : HaltRecord :=
  if r.further.length < maxFurther then { r with further := r.further ++ [c] }
  else { r with furtherLost := stopAt16 r.furtherLost }

def modifyHalt (f : HaltRecord → HaltRecord) (s : State) : State := { s with supervisor.halt := s.supervisor.halt.map f }

/-- A cause taken in HALTED (R132), with a halt notice that reports the tunnel state as every one does (R124). -/
def furtherCause (c : Cause) (s : State) : State :=
  let t := takenNow c s
  notify .halt (put8 furtherCauseKind ++ put8 (tunnelStateCode s.supervisor.tunnel) ++ put16 (haltNumber s) ++ putCause t)
    (modifyHalt (HaltRecord.addFurther t) s)

/-- The restart attempt ends and the tunnel is HALTED again (R133, R136, R138). -/
def endAttempt (r : ChangeReason) (more : List Byte) (s : State) : State :=
  restartStep .halted r (haltNumber s) more { s with supervisor.restart := none }

/-- The Supervisor takes a cause: what it does depends on the tunnel state at that moment (R130, R132, R133). -/
def takeCause (c : Cause) (s : State) : State :=
  match s.supervisor.tunnel with
  | .halted => furtherCause c s
  | .restarting => furtherCause c (endAttempt .cause [] s)
  | .closed => firstCause c s
  | .opened => firstCause c s
  | .closing => firstCause c s
  | .rehearsal => firstCause c s

/-- The Supervisor takes the causes raised so far, in the order in which they were raised. -/
def takeCauses (s : State) : State := s.raised.foldl (fun t c => takeCause c t) { s with raised := [] }

/-! ## Incidents (R134) -/

def countEntry (s : State) : State := modifyHalt (fun r => { r with entries := stopAt16 r.entries }) s

def countStray (s : State) : State := modifyHalt (fun r => { r with strays := stopAt16 r.strays }) s

end Sys2Proof.Machine
end

