-- ==== Sys2Proof/Machine/EntryAdmission.lean ====
section
/-! DEFINITION. Entry and Exit Control: admissions, the two treadles, missing cars, the end of a rehearsal run (R75 to R77, R86 to
R95, R168). -/

namespace Sys2Proof.Machine

/-! ## Car records (R76, R77, R65) -/

/-- The number that the next record takes (R76). -/
def nextCarNumber (s : State) : Nat := nextFree 65535 (carNumbers s) ((carNumbers s).length + 1) s.entry.carCounter

/-- The statuses of a new record: PENDING for each used arch whose service is in the services list (R77). -/
def initialStatuses (layouts : Vector Layout 12) (services : List ServicePress) : Vector (Option ArchStatus) 12 :=
  tabulate fun a =>
    if (layouts.get a).kind != .unused && services.any (fun x => x.service == (layouts.get a).service) then some .pending
    else none

/-- What an admission reads of the sale, by the kind of admission (R77). -/
structure Sale where
  ticket : Option Nat
  lane : Option (Fin 3)
  plan : Option Nat
  maxClass : Nat
  extras : List Nat
  slot : Option Nat
  total : Nat
  tender : Option Tender
  services : List ServicePress
  deriving DecidableEq, Repr

/-- A called or a grace admission copies the ticket (R77). -/
def saleOfTicket (t : Ticket) : Sale :=
  { ticket := some t.number, lane := some t.lane, plan := some t.plan, maxClass := t.maxClass, extras := t.extras,
    slot := t.slot, total := t.total, tender := t.tender, services := t.services }

/-- A plan of the catalog by its number. -/
def planAt (n : Nat) (s : State) : Option Plan := s.settings.plans.toList[n]?

/-- An unbidden admission takes the fallback plan as it stands, or no plan, maximum class 4 and no services (R77). -/
def saleUnbidden (s : State) : Sale :=
  match s.settings.site.fallback.bind fun n => (planAt n s).map fun p => (n, p) with
  | some (n, p) =>
    { ticket := none, lane := none, plan := some n, maxClass := p.maxClass, extras := [], slot := none, total := 0,
      tender := none, services := p.services }
  | none =>
    { ticket := none, lane := none, plan := none, maxClass := 4, extras := [], slot := none, total := 0, tender := none,
      services := [] }

/-- The record of an admission (R77), with requirements 0 and the plan's maximum class (R65). -/
def newCar (n : Nat) (sale : Sale) (s : State) : Car :=
  { number := n, phantom := false, ticket := sale.ticket, lane := sale.lane, plan := sale.plan, maxClass := sale.maxClass,
    extras := sale.extras, slot := sale.slot, total := sale.total, tender := sale.tender, services := sale.services,
    bank := some (activeBank s), anchor := s.tracker.pos, origin := none, profile := .waiting, samples := [],
    rearExtent := provisionalExtent, cls := sale.maxClass, applied := none, inDomain := false,
    requirements := Vector.replicate 12 0, statuses := initialStatuses s.settings.layouts sale.services, tags := [],
    tagsLost := 0, missing := false, unpaid := sale.ticket.isNone, firstHalt := none, gaugeHeld := false, shadowed := [] }

/-! ## Admission (R88 to R92) -/

/-- The close-follow test: the newest car is MEASURING, or the gap is not satisfied (R92). -/
def closeFollows (s : State) : Bool :=
  (match newestCar s with
    | some c => c.profile == .measuring
    | none => false) || !gapNow s

/-- Steps 2 to 5 of R88: the record is numbered and built, the station settles the car it watches and watches the new one, the
record joins the table, and the bank counts it. -/
def buildRecord (n : Nat) (sale : Sale) (s : State) : State :=
  let car := newCar n sale s
  let s := settleWatched { s with entry.carCounter := stepOn 65535 n }
  let s := watching (.searching n) { s with entry.table := s.entry.table ++ [car] }
  countAdmitted (activeBank s) s

/-- Step 7 of R88: the roller-up actuator is pulsed (R196). -/
def pulseRoller (s : State) : State := { s with entry.roller := some pulseUnits }

/-- The close follow's tag and cause at step 8 of R88 (R92). -/
def handCloseFollow (n : Nat) (close : Bool) (s : State) : State :=
  if close then takeCause (.closeFollow n) (tagCar n .closeFollow s) else s

/-- An admission on a ticket: called (R89) or grace (R90). The call, if it is outstanding, and the remembered ticket, if there is
one, end (R84). -/
def admitTicket (t : Ticket) (s : State) : State :=
  let close := closeFollows s
  let n := nextCarNumber s
  let s := dropTicket t.number (buildRecord n (saleOfTicket t) s)
  let s := forget (match s.entry.call with
    | none => s
    | some k => endCall k s)
  let s := ticketNotice .admitted t removedCode (put16 n) (pulseRoller s)
  arbitrate (evaluateRun (handCloseFollow n close s))

/-- An unbidden admission (R91). DEDUCED (log entry 54): its notice UNBIDDEN carries no halt number. -/
def admitUnbidden (s : State) : State :=
  let close := closeFollows s
  let n := nextCarNumber s
  let sale := saleUnbidden s
  let s := pulseRoller (forget (buildRecord n sale s))
  let s := notify .halt
    (put8 unbiddenKind ++ put8 (tunnelStateCode s.supervisor.tunnel) ++ put16 n ++ putFlag sale.plan.isSome) (tagCar n .unbidden s)
  arbitrate (evaluateRun (handCloseFollow n close s))

/-- A front-wheel closing in OPEN with room in the table: called, grace or unbidden admission (R87). -/
def admitOpen (s : State) : State :=
  match s.entry.call with
  | some k =>
    match findTicket k.ticket s with
    | some t => admitTicket t s
    | none => admitUnbidden s
  | none =>
    match s.entry.remembered.bind fun r => findTicket r.ticket s with
    | some t => if gapNow s then admitTicket t s else admitUnbidden s
    | none => admitUnbidden s

/-- A front-wheel closing of the entry treadle, by the first line of R87's table that applies. DEDUCED (log entry 54): the notice
ENTRY_WHILE_CLOSED carries no halt number. -/
def entryFront (s : State) : State :=
  match s.supervisor.tunnel with
  | .halted => countEntry s
  | .restarting => countEntry s
  | .rehearsal => takeCause .entryInRehearsal s
  | .closed => notify .halt (put8 entryWhileClosedKind ++ put8 (tunnelStateCode .closed)) s
  | .opened => if s.entry.table.length < maxCars then admitOpen s else takeCause .tableFullEntry s
  | .closing => if s.entry.table.length < maxCars then admitUnbidden s else takeCause .tableFullEntry s

/-- The entry treadle closes (R86, R87): a rear wheel only returns the wheel state to FRONT. -/
def entryClosing (s : State) : State :=
  let s := { s with entry.entryClosed := true }
  match s.entry.entryWheel with
  | .rear _ => { s with entry.entryWheel := .front }
  | .front =>
    let mark := s.tracker.pos
    let s := entryFront s
    { s with entry.entryWheel := .rear mark }

/-! ## The exit treadle (R93, R94) -/

/-- The exit window of a car at a position, both ends included (R93). -/
def inExitWindow (p : Pos) (site : Site) (c : Car) : Bool :=
  let d := signedDiff p c.anchor
  decide ((site.exitOffset : Int) - site.exitTolerance ≤ d) && decide (d ≤ (site.exitOffset : Int) + site.exitTolerance)

/-- The car that a front-wheel closing of the exit treadle matches: the oldest car alone, not the phantom car (R93). DEDUCED (log entry
53): its window alone decides, so a MISSING car whose window P has rolled back into is matched. -/
def exitMatch (s : State) : Option Car :=
  (oldestCar s).filter fun c => !c.phantom && inExitWindow s.tracker.pos s.settings.site c

/-- A matched exit: the tag under a halt, the removal, and the arbiter's evaluation (R93, R96, R81). -/
def exitMatched (c : Car) (s : State) : State :=
  let c := if stopped s then c.addTag .exitDuringHalt else c
  arbitrate (removeCar c .exit s)

/-- A stray exit: an incident under a halt, else a cause (R94). -/
def exitStray (s : State) : State := if stopped s then countStray s else takeCause .strayExit s

/-- A front-wheel closing of the exit treadle (R93, R94). -/
def exitFront (s : State) : State :=
  match exitMatch s with
  | some c => exitMatched c s
  | none => exitStray s

/-- The exit treadle closes (R86, R93). -/
def exitClosing (s : State) : State :=
  let s := { s with entry.exitClosed := true }
  match s.entry.exitWheel with
  | .rear _ => { s with entry.exitWheel := .front }
  | .front =>
    let mark := s.tracker.pos
    let s := exitFront s
    { s with entry.exitWheel := .rear mark }

/-- A treadle opens: its line reading changes and nothing else (R86). -/
def treadleOpens (t : Treadle) (s : State) : State :=
  match t with
  | .entry => { s with entry.entryClosed := false }
  | .exit => { s with entry.exitClosed := false }

/-! ## On a forward pitch -/

/-- A treadle waiting for a rear wheel gives it up beyond the wheel span (R86). -/
def wheelPitch (p : Pos) (w : Wheel) : Wheel :=
  match w with
  | .front => .front
  | .rear mark => if wheelSpan < signedDiff p mark then .front else .rear mark

/-- The oldest car passes its exit window: the MISSING flag and the cause (R95). -/
def missingPitch (p : Pos) (s : State) : State :=
  match oldestCar s with
  | none => s
  | some c =>
    if !c.phantom && !c.missing
        && decide ((s.settings.site.exitOffset : Int) + s.settings.site.exitTolerance < signedDiff p c.anchor) then
      raise (.carMissing c.number) (modifyCar c.number (fun c => { c with missing := true }) s)
    else s

/-- The phantom car reaches the end position: it is removed, the summary is made and the tunnel is CLOSED (R168). -/
def rehearsalPitch (p : Pos) (s : State) : State :=
  if s.supervisor.tunnel = .rehearsal && reached p s.rehearsal.endPos then
    match phantomCar s with
    | none => s
    | some c =>
      let s := endRehearsal .ended c (removeCar c .cleared s)
      evaluateRun (changeTunnel .closed .rehearsalEnd 0 [] s)
  else s

/-- Entry and Exit Control acts on a forward pitch; its evaluation of the arbiter is made when the control has acted (R81). -/
def controlPitch (p : Pos) (s : State) : State :=
  let s := { s with
    entry.entryWheel := wheelPitch p s.entry.entryWheel
    entry.exitWheel := wheelPitch p s.entry.exitWheel }
  rehearsalPitch p (missingPitch p s)

end Sys2Proof.Machine
end

