-- ==== Sys2Proof/Machine/SalesOps.lean ====
section
/-! DEFINITION. The Sales Unit's tickets and the call's lapse (R83, R84, R107 to R121). -/

namespace Sys2Proof.Machine

/-! ## The catalog by number -/

def planRecord (n : Nat) (s : State) : Plan := lookup s.settings.plans n blankPlan
def extraRecord (n : Nat) (s : State) : Extra := lookup s.settings.extras n blankExtra
def discountSlot (n : Nat) (s : State) : Discount := lookup s.settings.discounts n noDiscount

/-! ## QUOTE (R107, R108, R111, R112) -/

/-- The lane of the sale: the link's lane, or the one the request names (R111). -/
def saleLane (l : Fin 4) (named : Option Nat) (s : State) : Option (Fin 3) :=
  match (accessAt l s).lane with
  | some n => laneOf n
  | none => named.bind laneOf

/-- The slot is unknown: outside 0 to 7, or of kind NONE (R111, test 1). -/
def slotUnknown (slot : Option Nat) (s : State) : Bool :=
  match slot with
  | none => false
  | some n => decide (8 ≤ n) || (discountSlot n s).kind == .none

/-- The combination that test 4 of R111 refuses. -/
def quoteInvalid (l : Fin 4) (plan : Nat) (extras : List Nat) (slot : Option Nat) (lane : Option Nat) (s : State) : Bool :=
  ((accessAt l s).lane.isSome && lane.isSome) || (saleLane l lane s).isNone || decide (4 < extras.length)
    || !decide extras.Nodup || extras.any (fun e => !inSet (planRecord plan s).allowed e)
    || (match slot with
      | none => false
      | some n => !inSet (discountSlot n s).regions (planRecord plan s).region)

/-- The plan, or any extra named, is WITHDRAWN (R111, test 5). -/
def quoteWithdrawn (plan : Nat) (extras : List Nat) (s : State) : Bool :=
  !lookup s.sales.planAvailable plan false || extras.any fun e => !lookup s.sales.extraAvailable e false

/-- A lane's count equals its stack limit (R109). -/
def laneFull (lane : Fin 3) (s : State) : Bool := decide (s.settings.site.stackLimits.get lane ≤ laneCount lane s)

/-- The tests of a QUOTE in their order (R111); `none` when all pass. -/
def quoteTests (l : Fin 4) (plan : Nat) (extras : List Nat) (slot : Option Nat) (lane : Option Nat) (s : State) :
    Option Status :=
  firstFailed
    [(decide (24 ≤ plan) || extras.any (fun e => decide (8 ≤ e)) || slotUnknown slot s, .unknown),
     (!maySell l (planRecord plan s).region s, .denied),
     (s.supervisor.tunnel == .closed || s.supervisor.tunnel == .closing || s.supervisor.tunnel == .rehearsal, .state),
     (quoteInvalid l plan extras slot lane s, .invalid),
     (quoteWithdrawn plan extras s, .unavailable),
     (decide (maxTickets ≤ s.sales.tickets.length), .queueFull),
     (match saleLane l lane s with
      | none => false
      | some n => laneFull n s, .laneFull)]

/-- The plan's price plus the price of each extra named (R107). -/
def subtotalOf (plan : Nat) (extras : List Nat) (s : State) : Nat :=
  (extras.map fun e => (extraRecord e s).price).foldl (· + ·) (planRecord plan s).price

/-- The discount on a subtotal (R107). -/
def discountOf (slot : Option Nat) (subtotal : Nat) (s : State) : Nat :=
  match slot with
  | none => 0
  | some n =>
    match (discountSlot n s).kind with
    | .none => 0
    | .amount => (discountSlot n s).value
    | .percent => (subtotal * (discountSlot n s).value + 50) / 100

/-- A service joins a services list: appended, or the larger press kept (R112). -/
def mergeService (l : List ServicePress) (x : ServicePress) : List ServicePress :=
  if l.any fun y => y.service == x.service then
    l.map fun y => if y.service = x.service then { y with press := max y.press x.press } else y
  else l ++ [x]

/-- The services list of the snapshot: the plan's, then each extra's in the order named (R112). -/
def snapshotServices (plan : Nat) (extras : List Nat) (s : State) : List ServicePress :=
  (extras.flatMap fun e => (extraRecord e s).services).foldl mergeService (planRecord plan s).services

/-- The ticket numbers in use: those of tickets and of cars in the table (R108). -/
def usedTicketNumbers (s : State) : List Nat :=
  s.sales.tickets.map (·.number) ++ s.entry.table.filterMap (·.ticket)

/-- The number that the next ticket takes (R108). -/
def nextTicketNumber (s : State) : Nat :=
  nextFree 9999 (usedTicketNumbers s) ((usedTicketNumbers s).length + 1) s.sales.ticketCounter

/-- The quote hold in 10 ms units (R112). -/
def fullHold (s : State) : Nat := s.settings.site.quoteHold * unitsPerSecond

/-- The ticket that a QUOTE builds (R112). -/
def quotedTicket (l : Fin 4) (plan : Nat) (extras : List Nat) (slot : Option Nat) (lane : Fin 3) (s : State) : Ticket :=
  let subtotal := subtotalOf plan extras s
  { number := nextTicketNumber s, state := .held, lane := lane, link := l, plan := plan, extras := extras, slot := slot,
    total := subtotal - discountOf slot subtotal s, tender := none, maxClass := (planRecord plan s).maxClass,
    services := snapshotServices plan extras s, hold := some (fullHold s), sequence := none, lapses := 0 }

/-- A ticket joins the queue; its number is struck from every expired list and the counter moves on (R108, R112). -/
def joinQueue (t : Ticket) (s : State) : State :=
  { s with
    sales.tickets := s.sales.tickets ++ [t]
    sales.ticketCounter := stepOn 9999 t.number
    sales.expired := mapAll (fun l => l.filter (· != t.number)) s.sales.expired }

/-- QUOTE (R111, R112). -/
def quoteRequest (l : Fin 4) (plan : Nat) (extras : List Nat) (slot : Option Nat) (lane : Option Nat) (s : State) :
    State × Reply :=
  match quoteTests l plan extras slot lane s, saleLane l lane s with
  | some st, _ => (s, refuse st)
  | none, none => (s, refuse .invalid)
  | none, some n =>
    let t := quotedTicket l plan extras slot n s
    let subtotal := subtotalOf plan extras s
    (joinQueue t s,
      { status := .ok,
        body := put16 t.number ++ put8 (laneNumber n) ++ put32 subtotal ++ put32 (discountOf slot subtotal s) ++ put32 t.total
          ++ put16 s.settings.site.quoteHold })

/-! ## CONFIRM, CANCEL, VOID, REQUEUE (R114 to R118) -/

/-- The tests that CONFIRM and CANCEL share (R114, R116): found, owned, HELD. -/
def ownershipTests (l : Fin 4) (n : Nat) (s : State) : Option Status :=
  match findTicket n s with
  | none => some (if n ∈ s.sales.expired.get l then .expired else .unknown)
  | some t => firstFailed [(t.link != l, .notOwner), (t.state != .held, .state)]

/-- No sequence is left to give (R114, R118). -/
def sequencesSpent (s : State) : Bool := decide (maxSequence ≤ s.sales.sequenceCounter)

/-- A ticket becomes PAID at the tail of its lane order with the next sequence (R115, R118). -/
def payTicket (t : Ticket) (tender : Option Tender) (lapses : Nat) (s : State) : State :=
  let seq := s.sales.sequenceCounter + 1
  modifyTicket t.number
    (fun t => { t with state := .paid, tender := tender, hold := none, sequence := some seq, lapses := lapses })
    { s with
      sales.sequenceCounter := seq
      sales.laneOrders := modifyAt s.sales.laneOrders t.lane (· ++ [t.number]) }

/-- CONFIRM (R114, R115). -/
def confirmRequest (l : Fin 4) (n tender : Nat) (s : State) : State × Reply :=
  match ownershipTests l n s, findTicket n s, tenderOf tender with
  | some st, _, _ => (s, refuse st)
  | none, none, _ => (s, refuse .unknown)
  | none, some _, none => (s, refuse .invalid)
  | none, some t, some paidBy =>
    if sequencesSpent s then (s, refuse .busy)
    else
      (arbitrate (payTicket t (some paidBy) t.lapses s),
        { status := .ok, body := put16 n ++ put32 (s.sales.sequenceCounter + 1) })

/-- CANCEL (R116). -/
def cancelRequest (l : Fin 4) (n : Nat) (s : State) : State × Reply :=
  match ownershipTests l n s with
  | some st => (s, refuse st)
  | none => (dropTicket n s, { status := .ok })

/-- The remembered ticket, if it is the one named, is forgotten and the arbiter evaluates (R84). -/
def releaseRemembered (n : Nat) (s : State) : State :=
  match s.entry.remembered with
  | none => s
  | some r => if r.ticket = n then arbitrate (forget s) else s

/-- The tests of a VOID (R174, R117). -/
def voidTests (l : Fin 4) (n : Nat) (s : State) : Option Status :=
  firstFailed
    [(!permitted l .operate s, .denied),
     ((findTicket n s).isNone, .unknown),
     ((findTicket n s).any fun t => t.state == .called, .state)]

/-- The effect of a VOID on its ticket (R117): a PAID or STALLED ticket is submitted to the journal, a HELD one is not. -/
def voidTicket (t : Ticket) (s : State) : State :=
  let s := dropTicket t.number s
  let s := if t.state = .held then s else submitTicket t .voided s
  releaseRemembered t.number (ticketNotice .voided t removedCode [] s)

/-- VOID (R117). -/
def voidRequest (l : Fin 4) (n : Nat) (s : State) : State × Reply :=
  match voidTests l n s, findTicket n s with
  | some st, _ => (s, refuse st)
  | none, none => (s, refuse .unknown)
  | none, some t => (voidTicket t s, { status := .ok })

/-- The tests of a REQUEUE (R174, R118). -/
def requeueTests (l : Fin 4) (n : Nat) (s : State) : Option Status :=
  firstFailed
    [(!permitted l .operate s, .denied),
     ((findTicket n s).isNone, .unknown),
     ((findTicket n s).any fun t => t.state != .stalled, .state),
     ((findTicket n s).any fun t => laneFull t.lane s, .laneFull),
     (sequencesSpent s, .busy)]

/-- The effect of a REQUEUE on its ticket (R118). -/
def requeueTicket (t : Ticket) (s : State) : State :=
  let s := payTicket t t.tender 0 { s with sales.stalled := s.sales.stalled.filter (· != t.number) }
  let s := ticketNotice .requeued { t with lapses := 0 } (ticketStateCode .paid) [] s
  arbitrate (forgetTicket t.number s)

/-- REQUEUE (R118). -/
def requeueRequest (l : Fin 4) (n : Nat) (s : State) : State × Reply :=
  match requeueTests l n s, findTicket n s with
  | some st, _ => (s, refuse st)
  | none, none => (s, refuse .unknown)
  | none, some t => (requeueTicket t s, { status := .ok })

/-! ## Expiries (R83, R84, R113)

An expiry happens when its timer has run out: a command that finds the timer idle, or started again with units left, has no effect
(log entry 6). -/

/-- A number joins an expired list, newest last, at most four kept (R113). -/
def pushExpired (n : Nat) (l : List Nat) : List Nat :=
  let m := l ++ [n]
  if maxExpired < m.length then m.drop 1 else m

/-- A HELD ticket whose hold timer has run out leaves the queue (R113). -/
def holdExpires (n : Nat) (s : State) : State :=
  match findTicket n s with
  | none => s
  | some t =>
    if t.state = .held ∧ ranOut t.hold then
      let s := dropTicket n s
      let s := { s with sales.expired := modifyAt s.sales.expired t.link (pushExpired n) }
      ticketNotice .expired t removedCode [] s
    else s

/-- A ticket stalls: it leaves its lane order and joins the stalled tickets (R83, R109). -/
def stallTicket (t : Ticket) (s : State) : State :=
  { s with
    sales.laneOrders := modifyAt s.sales.laneOrders t.lane (fun l => l.filter (· != t.number))
    sales.stalled := s.sales.stalled ++ [t.number] }

/-- A stall notice (R83). DESIGN CHOICE (log entry 16): it carries the ticket number and the lane. -/
def stallNotice (t : Ticket) (s : State) : State := notify .stall (put16 t.number ++ put8 (laneNumber t.lane)) s

/-- What a lapse does to the called ticket (R83): PAID at its lane head, or STALLED at the third lapse. -/
def lapseTicket (t : Ticket) (s : State) : State :=
  let t := { t with lapses := t.lapses + 1 }
  if t.lapses < maxLapses then
    ticketNotice .lapsed t (ticketStateCode .paid) []
      (modifyTicket t.number (fun u => { u with state := .paid, lapses := t.lapses }) s)
  else
    let s := stallTicket t (modifyTicket t.number (fun u => { u with state := .stalled, lapses := t.lapses }) s)
    ticketNotice .stalled t (ticketStateCode .stalled) [] (stallNotice t s)

/-- The call timer has run out: the call lapses and its ticket is remembered (R83). -/
def callLapses (s : State) : State :=
  match s.entry.call with
  | none => s
  | some k =>
    if ranOut (some k.timer) then
      let s := match findTicket k.ticket s with
        | none => s
        | some t => lapseTicket t s
      let s := endCall k s
      evaluateRun { s with entry.remembered := some { ticket := k.ticket, timer := graceUnits } }
    else s

/-- The grace timer has run out: the remembered ticket is forgotten and the arbiter evaluates (R84). -/
def graceExpires (s : State) : State :=
  if ranOut (s.entry.remembered.map (·.timer)) then arbitrate (forget s) else s

/-! ## QUERY_TICKETS (R121) -/

/-- A ticket's place in its lane order, or among the stalled tickets; none for a HELD ticket (R121). -/
def ticketPlace (t : Ticket) (s : State) : Option Nat :=
  let order := match t.state with
    | .held => []
    | .paid => s.sales.laneOrders.get t.lane
    | .called => s.sales.laneOrders.get t.lane
    | .stalled => s.sales.stalled
  (order.findIdx? (· == t.number)).map (· + 1)

/-- One ticket's fields (R121). -/
def putTicket (t : Ticket) (s : State) : List Byte :=
  put8 (ticketStateCode t.state) ++ put8 (laneNumber t.lane) ++ put8 t.link.val ++ put8 t.plan ++ putList put8 t.extras
    ++ putOnes8 t.slot ++ put32 t.total ++ putZero8 (t.tender.map tenderCode) ++ put8 t.maxClass ++ putOnes16 t.hold
    ++ putOnes32 t.sequence ++ put8 t.lapses ++ putOnes8 (ticketPlace t s)

/-- The number of tickets in a state. -/
def ticketsIn (st : TicketState) (s : State) : Nat := (s.sales.tickets.filter fun t => t.state == st).length

/-- Lane counts, limits and heads, tickets by state, and the two counters (R121). -/
def putTicketCounts (s : State) : List Byte :=
  allLanes.flatMap (fun l =>
      put8 (laneCount l s) ++ put8 (s.settings.site.stackLimits.get l) ++ putZero16 (s.sales.laneOrders.get l).head?)
    ++ put8 (ticketsIn .held s) ++ put8 (ticketsIn .paid s) ++ put8 (ticketsIn .called s) ++ put8 (ticketsIn .stalled s)
    ++ put32 s.sales.sequenceCounter ++ put16 s.sales.ticketCounter

def putTicketSummary (t : Ticket) : List Byte :=
  put16 t.number ++ put8 (ticketStateCode t.state) ++ put8 (laneNumber t.lane) ++ put8 t.lapses

/-- QUERY_TICKETS (R121): one ticket, or the counts with up to 6 summaries. DESIGN CHOICE (log entry 52): where a ticket is named, the
first index is ignored. -/
def queryTicketsReply (ticket : Option Nat) (first : Nat) (s : State) : Reply :=
  match ticket with
  | some n =>
    match findTicket n s with
    | none => refuse .unknown
    | some t => { status := .ok, body := putTicket t s }
  | none =>
    if s.sales.tickets.length ≤ first then { status := .empty, body := putTicketCounts s }
    else
      { status := .ok,
        body := putTicketCounts s ++ putList putTicketSummary ((s.sales.tickets.drop first).take 6) }

end Sys2Proof.Machine
end

