-- ==== Sys2Proof/Machine/CatalogOps.lean ====
section
/-! DEFINITION. The catalog's edits, the price locks and QUERY_CATALOG (R99 to R103, R122, R181). -/

namespace Sys2Proof.Machine

/-! ## Field tests -/

/-- The printable set is 0x20 to 0x7E (R194). -/
def printable (b : Byte) : Bool := decide (0x20 ≤ b.toNat) && decide (b.toNat ≤ 0x7E)

/-- The characters of a name field, up to its padding (R194). -/
def nameOf (field : List Byte) : List Byte := field.takeWhile (· != 0)

/-- A name field holds printable characters, then 0x00 alone, within its width (R194). -/
def nameOk (width : Nat) (field : List Byte) : Bool :=
  decide (field.length ≤ width) && (nameOf field).all printable && (field.dropWhile (· != 0)).all (· == 0)

/-- A services list within its bounds, each service once (R100, R102). -/
def servicesOk (most : Nat) (l : List ServicePress) : Bool :=
  decide (l.length ≤ most) && l.all (fun x => decide (x.service < 16) && decide (x.press ≤ maxPress))
    && decide (l.map (·.service)).Nodup

/-! ## EDIT_SERVICE (R99) -/

def editServiceTests (l : Fin 4) (n : Nat) (name : List Byte) (s : State) : Option Status :=
  firstFailed
    [(!permitted l .configure s, .denied), (decide (16 ≤ n), .unknown), (!nameOk 12 name, .invalid)]

def editService (n : Nat) (name : List Byte) (s : State) : State :=
  reevaluate .edit (markDirty { s with settings.services := store s.settings.services n (nameOf name) })

/-- EDIT_SERVICE (R99). -/
def editServiceRequest (l : Fin 4) (n : Nat) (name : List Byte) (s : State) : State × Reply :=
  match editServiceTests l n name s with
  | some st => (s, refuse st)
  | none => (editService n name s, { status := .ok })

/-! ## EDIT_PLAN (R100, R101) -/

/-- A plan lies inside a price lock range, both ends included (R181). -/
def planLocked (n : Nat) (s : State) : Bool := s.locks.any fun r => decide (r.1 ≤ n) && decide (n ≤ r.2)

/-- The record's own checks (R100). -/
def planOk (p : Plan) : Bool :=
  nameOk 16 p.name && decide (p.region < 4) && decide (p.price ≤ maxPrice) && decide (1 ≤ p.maxClass)
    && decide (p.maxClass ≤ 4) && servicesOk 12 p.services

/-- The tests of an EDIT_PLAN in their order (R100). -/
def editPlanTests (l : Fin 4) (n : Nat) (p : Plan) (s : State) : Option Status :=
  firstFailed
    [(decide (24 ≤ n), .unknown),
     (!(mayEdit l (planRecord n s).region s && mayEdit l p.region s), .denied),
     (planLocked n s, .locked),
     (!planOk p, .invalid)]

def editPlan (n : Nat) (p : Plan) (s : State) : State :=
  reevaluate .edit (markDirty { s with settings.plans := store s.settings.plans n { p with name := nameOf p.name } })

/-- EDIT_PLAN (R100, R101). -/
def editPlanRequest (l : Fin 4) (n : Nat) (p : Plan) (s : State) : State × Reply :=
  match editPlanTests l n p s with
  | some st => (s, refuse st)
  | none => (editPlan n p s, { status := .ok })

/-! ## EDIT_EXTRA (R102) -/

/-- The plans whose allowed extras include an extra. -/
def plansAllowing (n : Nat) (s : State) : List Plan := s.settings.plans.toList.filter fun p => inSet p.allowed n

/-- The rights over an extra follow the plans it is sold with (R102). -/
def mayEditExtra (l : Fin 4) (n : Nat) (s : State) : Bool :=
  if (plansAllowing n s).isEmpty then mayEditSome l s else (plansAllowing n s).all fun p => mayEdit l p.region s

def extraOk (e : Extra) : Bool := nameOk 16 e.name && decide (e.price ≤ maxPrice) && servicesOk 3 e.services

/-- The tests of an EDIT_EXTRA in their order (R102). -/
def editExtraTests (l : Fin 4) (n : Nat) (e : Extra) (s : State) : Option Status :=
  firstFailed [(decide (8 ≤ n), .unknown), (!mayEditExtra l n s, .denied), (!extraOk e, .invalid)]

def editExtra (n : Nat) (e : Extra) (s : State) : State :=
  reevaluate .edit (markDirty { s with settings.extras := store s.settings.extras n { e with name := nameOf e.name } })

/-- EDIT_EXTRA (R102). -/
def editExtraRequest (l : Fin 4) (n : Nat) (e : Extra) (s : State) : State × Reply :=
  match editExtraTests l n e s with
  | some st => (s, refuse st)
  | none => (editExtra n e s, { status := .ok })

/-! ## EDIT_DISCOUNT (R103) -/

/-- The rights over a slot: EDIT for every region of its present and its new set, or for some region where both are empty. -/
def mayEditDiscount (l : Fin 4) (n : Nat) (regions : Byte) (s : State) : Bool :=
  let union := (discountSlot n s).regions ||| regions
  if union = 0 then mayEditSome l s else mayEditAll l union s

/-- A discount record that names a kind and passes its checks (R103). -/
def discountOfArg (r : DiscountArg) : Option Discount :=
  match discountKindOf r.kind with
  | none => none
  | some .none => if r.value = 0 ∧ r.regions = 0 then some { kind := .none, value := r.value, regions := r.regions } else none
  | some .amount =>
    if 1 ≤ r.value ∧ r.value ≤ maxPrice ∧ r.regions ≠ 0 ∧ subset r.regions 0x0F then
      some { kind := .amount, value := r.value, regions := r.regions }
    else none
  | some .percent =>
    if 1 ≤ r.value ∧ r.value ≤ 100 ∧ r.regions ≠ 0 ∧ subset r.regions 0x0F then
      some { kind := .percent, value := r.value, regions := r.regions }
    else none

/-- The tests of an EDIT_DISCOUNT before its record (R103). -/
def editDiscountTests (l : Fin 4) (n : Nat) (r : DiscountArg) (s : State) : Option Status :=
  firstFailed [(decide (8 ≤ n), .unknown), (!mayEditDiscount l n r.regions s, .denied)]

def editDiscount (n : Nat) (d : Discount) (s : State) : State :=
  reevaluate .edit (markDirty { s with settings.discounts := store s.settings.discounts n d })

/-- EDIT_DISCOUNT (R103). -/
def editDiscountRequest (l : Fin 4) (n : Nat) (r : DiscountArg) (s : State) : State × Reply :=
  match editDiscountTests l n r s, discountOfArg r with
  | some st, _ => (s, refuse st)
  | none, none => (s, refuse .invalid)
  | none, some d => (editDiscount n d s, { status := .ok })

/-! ## LOCK_RANGE (R181) -/

def lockRangeTests (l : Fin 4) (first last : Nat) (s : State) : Option Status :=
  firstFailed
    [(!permitted l .configure s, .denied), (decide (24 ≤ first) || decide (24 ≤ last), .unknown),
     (decide (last < first), .invalid), (decide (maxLocks ≤ s.locks.length), .busy)]

/-- LOCK_RANGE (R181). -/
def lockRangeRequest (l : Fin 4) (first last : Nat) (s : State) : State × Reply :=
  match lockRangeTests l first last s with
  | some st => (s, refuse st)
  | none => ({ s with locks := s.locks ++ [(first, last)] }, { status := .ok, body := put8 (s.locks.length + 1) })

/-! ## QUERY_CATALOG (R122) -/

/-- The used arches whose layout names a service, each with whether it provides it now (R122, R104). -/
def archesNaming (service : Nat) (s : State) : List (Fin 12) :=
  allArches.filter fun a => (layoutAt a s).kind != .unused && (layoutAt a s).service == service

def putServiceItem (n : Nat) (s : State) : List Byte :=
  putName 12 (serviceName n s)
    ++ putList (fun a => put8 a.val ++ putFlag (provides a s)) (archesNaming n s)

/-- A plan (R122): its record, without its number (DEDUCED, log entry 56), its availability, and whether a price lock holds it. -/
def putPlanItem (n : Nat) (s : State) : List Byte :=
  putPlan (planRecord n s) ++ put8 (availabilityCode (lookup s.sales.planAvailable n false)) ++ putFlag (planLocked n s)

/-- An extra (R122): its record, without its number (DEDUCED, log entry 56), and its availability. -/
def putExtraItem (n : Nat) (s : State) : List Byte :=
  putExtra (extraRecord n s) ++ put8 (availabilityCode (lookup s.sales.extraAvailable n false))

def putDiscountItem (n : Nat) (s : State) : List Byte :=
  let d := discountSlot n s
  put8 (discountKindCode d.kind) ++ put32 d.value ++ [d.regions]

/-- QUERY_CATALOG (R122): item kinds from 1, SERVICE, PLAN, EXTRA, DISCOUNT (R195). -/
def queryCatalogReply (kind n : Nat) (s : State) : Reply :=
  match kind with
  | 1 => if n < 16 then { status := .ok, body := putServiceItem n s } else refuse .unknown
  | 2 => if n < 24 then { status := .ok, body := putPlanItem n s } else refuse .unknown
  | 3 => if n < 8 then { status := .ok, body := putExtraItem n s } else refuse .unknown
  | 4 => if n < 8 then { status := .ok, body := putDiscountItem n s } else refuse .unknown
  | _ => refuse .unknown

end Sys2Proof.Machine
end

