-- ==== Sys2Proof/Machine/TunnelOps.lean ====
section
/-! DEFINITION. The requests that move the tunnel, the restart, the end of a halt, and the emergency-stop line (R125 to R142). -/

namespace Sys2Proof.Machine

/-! ## Opening and closing (R125, R126) -/

/-- The tunnel has entered OPEN: the class is recomputed, the arbiter evaluates, the run command is re-evaluated (R125, R137). -/
def enterOpen (s : State) : State := evaluateRun (arbitrate (recomputeClass s))

/-- The halt record's resume state changes (R125, R126). -/
def setResume (t : TunnelState) (s : State) : State := modifyHalt (fun r => { r with resume := t }) s

/-- The resume state of the halt in force. -/
def resumeOf (s : State) : TunnelState := (s.supervisor.halt.map (·.resume)).getD .closed

/-- OPEN_TUNNEL under a halt (R125). -/
def openUnderHalt (s : State) : State × Reply :=
  match resumeOf s with
  | .closing => (setResume .opened s, { status := .ok })
  | .opened => (s, { status := .ok })
  | .closed => (s, refuse .state)
  | .halted => (s, refuse .state)
  | .restarting => (s, refuse .state)
  | .rehearsal => (s, refuse .state)

/-- OPEN_TUNNEL (R125). -/
def openTunnelRequest (l : Fin 4) (s : State) : State × Reply :=
  if !permitted l .operate s then (s, refuse .denied)
  else
    match s.supervisor.tunnel with
    | .closed =>
      if s.store.unconfigured || !layoutValid s then (s, refuse .notReady)
      else (enterOpen (changeTunnel .opened .openTunnel 0 [] s), { status := .ok })
    | .closing => (enterOpen (changeTunnel .opened .openTunnel 0 [] s), { status := .ok })
    | .opened => (s, { status := .ok })
    | .halted => openUnderHalt s
    | .restarting => openUnderHalt s
    | .rehearsal => (s, refuse .state)

/-- CLOSE_TUNNEL under a halt (R126). -/
def closeUnderHalt (s : State) : State × Reply :=
  match resumeOf s with
  | .opened => (setResume .closing s, { status := .ok })
  | .closing => (s, { status := .ok })
  | .closed => (s, { status := .ok })
  | .halted => (s, { status := .ok })
  | .restarting => (s, { status := .ok })
  | .rehearsal => (s, { status := .ok })

/-- CLOSE_TUNNEL in OPEN: the call is cancelled, the remembered ticket forgotten, and the state CLOSED or CLOSING (R126, R85). -/
def closeFromOpen (s : State) : State :=
  let s := forget (cancelCall s)
  let new : TunnelState := if s.entry.table.isEmpty then .closed else .closing
  evaluateRun (changeTunnel new .closeTunnel 0 [] s)

/-- CLOSE_TUNNEL (R126). -/
def closeTunnelRequest (l : Fin 4) (s : State) : State × Reply :=
  if !permitted l .operate s then (s, refuse .denied)
  else
    match s.supervisor.tunnel with
    | .opened => (closeFromOpen s, { status := .ok })
    | .closing => (s, { status := .ok })
    | .closed => (s, { status := .ok })
    | .halted => closeUnderHalt s
    | .restarting => closeUnderHalt s
    | .rehearsal => (s, refuse .state)

/-- HALT (R129). -/
def haltRequest (l : Fin 4) (s : State) : State × Reply :=
  if !permitted l .operate s then (s, refuse .denied) else (takeCause .manual s, { status := .ok })

/-! ## Restart conditions (R136) -/

/-- An arch that is neither PARKED nor out of service. -/
def archNotReady (a : Fin 12) (s : State) : Bool := (archAt a s).phase != .parked && !(archAt a s).outOfService

/-- The arches not ready. -/
def archesNotReady (s : State) : List (Fin 12) := allArches.filter fun a => archNotReady a s

/-- The cars flagged MISSING. -/
def carsMissing (s : State) : List Nat := (s.entry.table.filter (·.missing)).map (·.number)

/-- The five conditions in the order of their table, true where the condition holds. -/
def conditionList (s : State) : List Bool :=
  [!s.supervisor.estop, !s.entry.entryClosed, !s.entry.exitClosed, (archesNotReady s).isEmpty, (carsMissing s).isEmpty]

def conditionsHold (s : State) : Bool := (conditionList s).all id

/-- The conditions that failed, numbered from 1 (R195), the arches not ready and the cars flagged MISSING. -/
def putFailed (s : State) : List Byte :=
  let failed := ((conditionList s).zipIdx 1).filterMap fun x => if x.1 then none else some x.2
  putList put8 failed ++ putList (fun a : Fin 12 => put8 a.val) (archesNotReady s) ++ putList put16 (carsMissing s)

/-! ## Ending a halt (R137, R141) -/

/-- The halt record becomes the last halt record (R141). -/
def endHalt (ending : HaltEnding) (s : State) : State :=
  match s.supervisor.halt with
  | none => s
  | some r =>
    { s with
      supervisor.halt := none
      supervisor.last := some { record := r, ending := ending, position := s.tracker.pos } }

/-- What follows in the state resumed to (R137). -/
def afterResume (s : State) : State :=
  match s.supervisor.tunnel with
  | .opened => enterOpen s
  | .closing => closeIfEmpty (evaluateRun s)
  | .closed => evaluateRun s
  | .halted => evaluateRun s
  | .restarting => evaluateRun s
  | .rehearsal => evaluateRun s

/-- The tunnel resumes (R137). -/
def resumeTunnel (first second : Fin 4) (s : State) : State :=
  let resume := resumeOf s
  let number := haltNumber s
  let s := endHalt (.restarted first second) { s with supervisor.restart := none }
  afterResume (restartStep resume .restart number
    (put8 (tunnelStateCode resume) ++ put8 first.val ++ put8 second.val) s)

/-- A second confirmation is refused (R136). -/
def refuseRestart (s : State) : State :=
  endAttempt .restart (putFailed s) (modifyHalt (fun r => { r with refusals := stopAt16 r.refusals }) s)

/-- A first confirmation (R135). -/
def beginRestart (l : Fin 4) (s : State) : State :=
  restartStep .restarting .restart (haltNumber s) (put8 l.val)
    { s with supervisor.restart := some { link := l, timer := windowUnits } }

/-- RESTART in RESTARTING (R136). -/
def confirmRestart (l : Fin 4) (s : State) : State × Reply :=
  match s.supervisor.restart with
  | none => (beginRestart l s, { status := .needOther })
  | some a =>
    if a.link = l then (s, { status := .needOther })
    else if conditionsHold s then (resumeTunnel a.link l s, { status := .ok })
    else (refuseRestart s, { status := .notReady, body := putFailed s })

/-- RESTART (R135, R136). -/
def restartRequest (l : Fin 4) (s : State) : State × Reply :=
  if !permitted l .restart s then (s, refuse .denied)
  else
    match s.supervisor.tunnel with
    | .halted => (beginRestart l s, { status := .needOther })
    | .restarting => confirmRestart l s
    | .closed => (s, refuse .state)
    | .opened => (s, refuse .state)
    | .closing => (s, refuse .state)
    | .rehearsal => (s, refuse .state)

/-- The restart window has run out (R138). -/
def windowExpires (s : State) : State :=
  if ranOut (s.supervisor.restart.map (·.timer)) then endAttempt .window [] s else s

/-! ## PULL_CAR and CLEAR_TUNNEL (R139, R140) -/

/-- The tests of a PULL_CAR (R174, R139). -/
def pullTests (l : Fin 4) (n : Nat) (s : State) : Option Status :=
  firstFailed [(!permitted l .operate s, .denied), (!stopped s, .state), ((findCar n s).isNone, .unknown)]

/-- PULL_CAR (R139). -/
def pullCarRequest (l : Fin 4) (n : Nat) (s : State) : State × Reply :=
  match pullTests l n s, findCar n s with
  | some st, _ => (s, refuse st)
  | none, none => (s, refuse .unknown)
  | none, some c =>
    (arbitrate (modifyHalt (fun r => { r with pulled := stopAt16 r.pulled }) (removeCar c .pulled s)),
      { status := .ok, body := put16 n })

/-- The tests of a CLEAR_TUNNEL (R174, R140). -/
def clearTests (l : Fin 4) (s : State) : Option Status :=
  firstFailed
    [(!permitted l .operate s, .denied),
     (s.supervisor.tunnel != .closed && s.supervisor.tunnel != .halted, .state),
     (s.supervisor.estop, .notReady)]

/-- CLEAR_TUNNEL's effect (R140): in CLOSED it leaves the state as it was and sends no notice. -/
def clearTunnel (s : State) : State :=
  let number := haltNumber s
  let s := allArches.foldl clearArch (removeAll .cleared s)
  let s := endHalt .cleared s
  if s.supervisor.tunnel = .halted then evaluateRun (changeTunnel .closed .clearTunnel number [] s) else s

/-- CLEAR_TUNNEL (R140). -/
def clearTunnelRequest (l : Fin 4) (s : State) : State × Reply :=
  match clearTests l s with
  | some st => (s, refuse st)
  | none => (clearTunnel s, { status := .ok })

/-! ## The emergency-stop line (R128) -/

/-- The emergency-stop line changes: ESTOP on a change from released to asserted (R128). -/
def estopChange (asserted : Bool) (s : State) : State :=
  let t := { s with supervisor.estop := asserted }
  if asserted && !s.supervisor.estop then takeCause .estop t else t

/-! ## QUERY_HALT (R142) -/

/-- Every field of a halt record, in the order of its table (R142). -/
def putHaltRecord (r : HaltRecord) : List Byte :=
  put16 r.number ++ putCause r.first ++ put8 (tunnelStateCode r.resume) ++ putList putCause r.further
    ++ put16 r.furtherLost ++ put16 r.entries ++ put16 r.strays ++ put16 r.pulled ++ put16 r.refusals

/-- The fields added when a halt ends (R141): ending, position, links. -/
def putEnding (h : LastHalt) : List Byte :=
  match h.ending with
  | .restarted first second => put8 1 ++ putPos h.position ++ put8 first.val ++ put8 second.val
  | .cleared => put8 2 ++ putPos h.position ++ putOnes8 none ++ putOnes8 none

/-- A record or none: none is halt number 0 alone. -/
def putHalt (o : Option HaltRecord) : List Byte :=
  match o with
  | none => putZero16 none
  | some r => putHaltRecord r

/-- The CURRENT section (R142). DEDUCED (log entry 46): the restart conditions are five flags in the order of their table, 1 where the
condition holds; a line reading is 1 for asserted or closed (log entry 44). -/
def putCurrentHalt (s : State) : List Byte :=
  put8 (tunnelStateCode s.supervisor.tunnel) ++ putHalt s.supervisor.halt
    ++ putOnes8 (s.supervisor.restart.map (·.link.val)) ++ putOnes16 (s.supervisor.restart.map (·.timer))
    ++ putFlag s.supervisor.estop ++ putFlag s.entry.entryClosed ++ putFlag s.entry.exitClosed
    ++ (conditionList s).flatMap putFlag ++ putList (fun a : Fin 12 => put8 a.val) (archesNotReady s)
    ++ putList put16 (carsMissing s)

/-- The LAST section (R142). -/
def putLastHalt (s : State) : List Byte :=
  put8 (tunnelStateCode s.supervisor.tunnel)
    ++ match s.supervisor.last with
      | none => putZero16 none
      | some h => putHaltRecord h.record ++ putEnding h

/-- QUERY_HALT (R142): sections CURRENT (1) and LAST (2). -/
def queryHaltReply (part : Nat) (s : State) : Reply :=
  match part with
  | 1 => { status := .ok, body := putCurrentHalt s }
  | 2 => { status := .ok, body := putLastHalt s }
  | _ => refuse .unknown

end Sys2Proof.Machine
end

