-- ==== Sys2Proof/Machine/ArchOps.lean ====
section
/-! DEFINITION. The requests and the line events of the arches (R33 to R35, R45, R48 to R53). -/

namespace Sys2Proof.Machine

/-! ## SET_ARCH (R33 to R35) -/

/-- A layout record whose codes name values. -/
def layoutOf (r : LayoutArg) : Option Layout :=
  match archKindOf r.kind, policyOf r.policy, initialOf r.initial with
  | some kind, some policy, some out =>
    some { kind := kind, service := r.service, offset := r.offset, lead := r.lead, trail := r.trail,
           lookAhead := r.lookAhead, minimum := r.minimum, maximum := r.maximum, slew := r.slew, margin := r.margin,
           tripThreshold := r.tripThreshold, policy := policy, initiallyOut := out }
  | _, _, _ => none

/-- A number within a closed range. -/
def within (a b n : Nat) : Bool := decide (a ≤ n) && decide (n ≤ b)

/-- The field checks of a layout record (R33). -/
def layoutFieldsOk (r : Layout) : Bool :=
  within 0 15 r.service && within 0 6000 r.offset && within 0 64 r.lead && within 0 64 r.trail && within 0 64 r.lookAhead
    && within 0 4095 r.minimum && within 0 4095 r.maximum && within 50 2000 r.slew && within 10 200 r.margin
    && within 1 255 r.tripThreshold && (!isFollowing r.kind || decide (r.minimum < r.maximum))
    && (r.kind != .spray || r.lookAhead == 0)

/-- The tests of a SET_ARCH up to the record itself (R174, R33). -/
def setArchTests (l : Fin 4) (n : Nat) (s : State) : Option Status :=
  firstFailed
    [(!permitted l .configure s, .denied), ((archOf n).isNone, .unknown), (s.supervisor.tunnel != .closed, .state)]

/-- The record passes the field checks, and the layout checks with it in place (R33, R34). -/
def setArchRecordOk (a : Fin 12) (r : Layout) (s : State) : Bool :=
  layoutFieldsOk r && layoutChecks (modifyAt s.settings.layouts a fun _ => r) s.settings.site

/-- The arch starts afresh under its record: no entries, no car, counts 0, the flag from the initial service, the command home
(R35, R54). -/
def Arch.fresh (r : Layout) (x : Arch) : Arch :=
  { x with phase := .parked, command := r.maximum, engaged := none, events := [], overOnce := false, trips := 0,
           outOfService := r.initiallyOut, timer := none }

/-- The effect of a SET_ARCH (R35): a following arch starts a return to the new home. -/
def setArchRecord (a : Fin 12) (r : Layout) (s : State) : State :=
  let s := { s with
    settings.layouts := modifyAt s.settings.layouts a fun _ => r
    store.layoutPresent := true }
  reevaluate .arch (startReturn a (modifyArch a (Arch.fresh r) (markDirty s)))

/-- SET_ARCH (R33, R35). -/
def setArchRequest (l : Fin 4) (n : Nat) (record : LayoutArg) (s : State) : State × Reply :=
  match setArchTests l n s, archOf n, layoutOf record with
  | some st, _, _ => (s, refuse st)
  | none, none, _ => (s, refuse .unknown)
  | none, some _, none => (s, refuse .invalid)
  | none, some a, some r =>
    if setArchRecordOk a r s then (setArchRecord a r s, { status := .ok }) else (s, refuse .invalid)

/-! ## SET_ARCH_SERVICE (R49) -/

/-- The tests of a SET_ARCH_SERVICE (R174, R49). -/
def setArchServiceTests (l : Fin 4) (n setting : Nat) (s : State) : Option Status :=
  firstFailed
    [(!permitted l .operate s, .denied), ((archOf n).isNone, .unknown),
     ((archOf n).any fun a => (layoutAt a s).kind == .unused, .invalid), ((settingOf setting).isNone, .invalid)]

/-- An arch taken out lets its car go, with the status SKIPPED (R49). -/
def takeOut (a : Fin 12) (s : State) : State :=
  let x := archAt a s
  let s := modifyArch a (fun x => { x with outOfService := true }) s
  if x.phase == .following || x.phase == .spraying then
    let s := startReturn a s
    match x.engaged with
    | none => s
    | some n => handStatus a n (setStatus n a .skipped s)
  else s

/-- An arch put back in: the flag is clear and the trip count 0 (R49). -/
def putBack (a : Fin 12) (s : State) : State := modifyArch a (fun x => { x with outOfService := false, trips := 0 }) s

/-- A setting that changes the flag sends OPERATOR and re-evaluates availability; one that does not changes nothing (R49). -/
def setService (a : Fin 12) (out : Bool) (s : State) : State :=
  if (archAt a s).outOfService = out then s
  else reevaluate .arch (archNotice .operator a (if out then takeOut a s else putBack a s))

/-- SET_ARCH_SERVICE (R49). -/
def setArchServiceRequest (l : Fin 4) (n setting : Nat) (s : State) : State × Reply :=
  match setArchServiceTests l n setting s, archOf n, settingOf setting with
  | some st, _, _ => (s, refuse st)
  | none, none, _ => (s, refuse .unknown)
  | none, some _, none => (s, refuse .invalid)
  | none, some a, some out => (setService a out s, { status := .ok })

/-! ## CLEAR_JAM (R51) -/

/-- The tests of a CLEAR_JAM (R174, R51). -/
def clearJamTests (l : Fin 4) (n : Nat) (s : State) : Option Status :=
  firstFailed
    [(!permitted l .operate s, .denied), ((archOf n).isNone, .unknown),
     ((archOf n).any fun a => (archAt a s).phase != .jammed, .state),
     ((archOf n).any fun a => !(archAt a s).homeClosed, .notReady)]

/-- A jammed arch is declared home (R51). -/
def clearJam (a : Fin 12) (s : State) : State :=
  reevaluate .arch (archNotice .cleared a (modifyArch a (fun x => { x with phase := .parked }) s))

/-- CLEAR_JAM (R51). -/
def clearJamRequest (l : Fin 4) (n : Nat) (s : State) : State × Reply :=
  match clearJamTests l n s, archOf n with
  | some st, _ => (s, refuse st)
  | none, none => (s, refuse .unknown)
  | none, some a => (clearJam a s, { status := .ok })

/-! ## Line events (R45, R48) -/

/-- A load code arrives and stands on the line until the next (R45). -/
def loadCode (a : Fin 12) (code : Byte) (s : State) : State := modifyArch a (fun x => { x with loadLine := code.toNat }) s

/-- A home switch changes: a closing parks a RETURNING arch, else only the reading changes (R48). -/
def Arch.homeSwitch (closed : Bool) (x : Arch) : Arch :=
  if closed && x.phase == .returning then { x with homeClosed := closed, phase := .parked, timer := none }
  else { x with homeClosed := closed }

def homeSwitch (a : Fin 12) (closed : Bool) (s : State) : State := modifyArch a (Arch.homeSwitch closed) s

/-- An arch jams at the end of its return: ARCH_JAM, the notice JAM, availability (R48). -/
def jam (a : Fin 12) (s : State) : State :=
  let s := takeCause (.archJam a) (modifyArch a (fun x => { x with phase := .jammed, timer := none }) s)
  reevaluate .arch (archNotice .jam a s)

/-- A return timer has run out (R48). -/
def returnExpires (a : Fin 12) (s : State) : State :=
  if (archAt a s).phase = .returning ∧ ranOut (archAt a s).timer then jam a s else s

/-! ## QUERY_ARCH (R53) -/

/-- A layout record, in the order of its table. -/
def putLayout (r : Layout) : List Byte :=
  put8 (archKindCode r.kind) ++ put8 r.service ++ put16 r.offset ++ put8 r.lead ++ put8 r.trail ++ put8 r.lookAhead
    ++ put16 r.minimum ++ put16 r.maximum ++ put16 r.slew ++ put16 r.margin ++ put8 r.tripThreshold
    ++ put8 (policyCode r.policy) ++ put8 (initialCode r.initiallyOut)

/-- An actuator output in millimetres; a spray arch's is 1 or 0 (R36; log entry 17). -/
def outputNumber : ActuatorOutput → Nat
  | .position mm => mm
  | .spray on => if on then 1 else 0
  | .idle => 0

/-- An arch without a first entry index (R53); the home switch reading is 1 for closed (log entry 44). -/
def putArch (a : Fin 12) (s : State) : List Byte :=
  let x := archAt a s
  putLayout (layoutAt a s) ++ put8 (archPhaseCode x.phase) ++ putFlag x.outOfService ++ put16 x.command
    ++ put16 (outputNumber (actuatorOutput a s)) ++ putZero16 x.engaged ++ putFlag x.overOnce ++ put8 x.trips
    ++ putFlag x.homeClosed ++ put8 x.loadRead ++ putOnes16 x.timer ++ put8 x.events.length

def putEvent (e : ArchEvent) : List Byte := putPos e.position ++ put16 e.car ++ put8 (eventKindCode e.kind)

/-- QUERY_ARCH (R53): the arch, or up to 16 entries of its list. -/
def queryArchReply (n : Nat) (first : Option Nat) (s : State) : Reply :=
  match archOf n, first with
  | none, _ => refuse .unknown
  | some a, none => { status := .ok, body := putArch a s }
  | some a, some i =>
    let l := eventList a s
    if l.length ≤ i then refuse .empty
    else { status := .ok, body := put8 a.val ++ put8 i ++ putList putEvent ((l.drop i).take 16) }

end Sys2Proof.Machine
end

