-- ==== Sys2Proof/Machine/SettingsOps.lean ====
section
/-! DEFINITION. The requests that set the site: gauges, site parameters, test profiles, access, subscriptions; the store's saves
(R17, R29, R30, R177, R179, R185 to R189). -/

namespace Sys2Proof.Machine

/-! ## SET_GAUGE (R17) -/

/-- The tests of a SET_GAUGE (R174, R17). -/
def setGaugeTests (l : Fin 4) (gauge first : Nat) (values : List Nat) (s : State) : Option Status :=
  firstFailed
    [(!permitted l .configure s, .denied), ((gaugeOf gauge).isNone, .unknown), (s.supervisor.tunnel != .closed, .state),
     (!within 1 64 values.length || decide (256 < first + values.length) || values.any fun v => decide (widest < v), .invalid)]

/-- A block of values replaces the entries from an index on, in order (R17). -/
def writeBlock (table : Vector Nat 256) (first : Nat) : List Nat → Vector Nat 256
  | [] => table
  | v :: rest => writeBlock (store table first v) (first + 1) rest

def setGauge (g : Fin 3) (first : Nat) (values : List Nat) (s : State) : State :=
  markDirty { s with settings.gauges := modifyAt s.settings.gauges g fun t => writeBlock t first values }

/-- SET_GAUGE (R17). -/
def setGaugeRequest (l : Fin 4) (gauge first : Nat) (values : List Nat) (s : State) : State × Reply :=
  match setGaugeTests l gauge first values s, gaugeOf gauge with
  | some st, _ => (s, refuse st)
  | none, none => (s, refuse .unknown)
  | none, some g => (setGauge g first values s, { status := .ok })

/-! ## SET_SITE (R186, R110) -/

/-- Every parameter within its range, E at least G + 100, the class speeds strictly rising (R186). -/
def siteOk (p : Site) : Bool :=
  within 150 1000 p.gaugeOffset && within (p.gaugeOffset + 100) 6000 p.exitOffset && within 10 100 p.exitTolerance
    && within 100 1000 p.gap && within 0 32 p.rollback && p.speeds.toList.all (within 4 40)
    && decide (speedOf p 1 < speedOf p 2) && decide (speedOf p 2 < speedOf p 3) && decide (speedOf p 3 < speedOf p 4)
    && within 1 4 p.cap && within 100 1000 p.presence && within 15 300 p.quoteHold && within 5 60 p.callTimeout
    && within 2 30 p.returnTimeout && within 1 10 p.stallTime && p.stackLimits.toList.all (within 1 16)
    && (match p.fallback with
      | none => true
      | some n => within 0 23 n)

/-- A stack limit below the lane's present lane count (R110). -/
def limitsBelow (p : Site) (s : State) : Bool := allLanes.any fun l => decide (p.stackLimits.get l < laneCount l s)

/-- The tests of a SET_SITE (R186). -/
def setSiteTests (l : Fin 4) (p : Site) (s : State) : Option Status :=
  firstFailed
    [(!permitted l .configure s, .denied), (s.supervisor.tunnel != .closed, .state),
     (!siteOk p || limitsBelow p s, .invalid)]

/-- The whole set replaces the running parameters; the class is recomputed (R186, R70). -/
def setSite (p : Site) (s : State) : State := recomputeClass (markDirty { s with settings.site := p })

/-- SET_SITE (R186). -/
def setSiteRequest (l : Fin 4) (p : Site) (s : State) : State × Reply :=
  match setSiteTests l p s with
  | some st => (s, refuse st)
  | none => (setSite p s, { status := .ok })

/-! ## SET_TEST_PROFILE (R29, R30) -/

/-- A test profile's number, 0 or 1. -/
def profileOf (n : Nat) : Option (Fin 2) := if h : n < 2 then some ⟨n, h⟩ else none

/-- A value above 4095 mm in a piece. -/
def piecesTooWide (samples : List Sample) : Bool :=
  samples.any fun x => decide (widest < x.top) || decide (widest < x.left) || decide (widest < x.right)

/-- The tests of a start piece (R29). -/
def startPieceInvalid (length : Nat) (samples : List Sample) : Bool :=
  !within 2 96 length || !within 1 16 samples.length || decide (length < samples.length) || piecesTooWide samples

/-- The tests of a continuation piece (R30): another link's record first. -/
def continuationTests (l : Fin 4) (g : Option Staging) (length first : Nat) (samples : List Sample) : Option Status :=
  match g with
  | none => some .invalid
  | some g =>
    firstFailed
      [(g.link != l, .busy),
       (length != g.length || first != g.next || !within 1 16 samples.length
          || decide (length < first + samples.length) || piecesTooWide samples, .invalid)]

/-- The tests of a SET_TEST_PROFILE (R174, R29, R30). -/
def setTestProfileTests (l : Fin 4) (profile length first : Nat) (samples : List Sample) (s : State) : Option Status :=
  if !permitted l .configure s then some .denied
  else
    match profileOf profile with
    | none => some .unknown
    | some k =>
      if first = 0 then firstFailed [(startPieceInvalid length samples, .invalid)]
      else continuationTests l (s.station.staging.get k) length first samples

/-- The samples staged once a piece is taken: a start piece's own, or the record's with a continuation's (R29, R30). -/
def stagedSamples (k : Fin 2) (first : Nat) (samples : List Sample) (s : State) : List Sample :=
  if first = 0 then samples else ((s.station.staging.get k).map (·.samples)).getD [] ++ samples

/-- A piece is taken: the record is opened or extended, and the profile is committed once all n samples are held (R29, R30). -/
def takePiece (l : Fin 4) (k : Fin 2) (length first : Nat) (samples : List Sample) (s : State) : State :=
  let held := stagedSamples k first samples s
  let next := first + samples.length
  if next = length then
    markDirty { s with
      station.staging := modifyAt s.station.staging k fun _ => none
      settings.testProfiles := modifyAt s.settings.testProfiles k fun _ => some held }
  else
    let record : Staging := { link := l, length := length, next := next, samples := held }
    { s with station.staging := modifyAt s.station.staging k fun _ => some record }

/-- SET_TEST_PROFILE (R29, R30). -/
def setTestProfileRequest (l : Fin 4) (profile length first : Nat) (samples : List Sample) (s : State) : State × Reply :=
  match setTestProfileTests l profile length first samples s, profileOf profile with
  | some st, _ => (s, refuse st)
  | none, none => (s, refuse .unknown)
  | none, some k => (takePiece l k length first samples s, { status := .ok, body := put8 (first + samples.length) })

/-! ## SET_ACCESS and SUBSCRIBE (R177, R179) -/

/-- A link's number. -/
def linkOf (n : Nat) : Option (Fin 4) := if h : n < 4 then some ⟨n, h⟩ else none

/-- An entry that names only lanes, regions and permissions that exist (R179). -/
def accessOk (e : Access) : Bool :=
  (match e.lane with
    | none => true
    | some n => within 1 3 n) && subset e.sell 0x0F && subset e.edit 0x0F && subset e.permissions 0x0F

/-- Some entry of the table holds CONFIGURE (R179): the test is made on the table itself. -/
def someConfigure (table : Vector Access 4) : Bool :=
  allLinks.any fun l => inSet (table.get l).permissions (permissionBit .configure)

/-- The tests of a SET_ACCESS (R174, R179). -/
def setAccessTests (l : Fin 4) (target : Nat) (e : Access) (s : State) : Option Status :=
  firstFailed
    [(!permitted l .configure s, .denied), ((linkOf target).isNone, .unknown),
     (!accessOk e || (linkOf target).any (fun t => !someConfigure (modifyAt s.settings.access t fun _ => e)), .invalid)]

def setAccess (t : Fin 4) (e : Access) (s : State) : State :=
  markDirty { s with settings.access := modifyAt s.settings.access t fun _ => e }

/-- SET_ACCESS (R179). -/
def setAccessRequest (l : Fin 4) (target : Nat) (e : Access) (s : State) : State × Reply :=
  match setAccessTests l target e s, linkOf target with
  | some st, _ => (s, refuse st)
  | none, none => (s, refuse .unknown)
  | none, some t => (setAccess t e s, { status := .ok })

/-- SUBSCRIBE (R177). -/
def subscribeRequest (l : Fin 4) (set : Byte) (s : State) : State × Reply :=
  (setAccess l { accessAt l s with subscriptions := set } s, { status := .ok, body := [set] })

/-! ## Saves (R188, R189) -/

/-- The tests of a SAVE_STORE (R174, R188). -/
def saveStoreTests (l : Fin 4) (s : State) : Option Status :=
  firstFailed [(!permitted l .configure s, .denied), (s.store.save.isSome, .busy)]

/-- The image as it is written: settings with the check value over all of them (R185). -/
def writtenImage (settings : Settings) : StoreImage := { settings := settings, check := imageCheck settings }

/-- An image passes its check: the value it holds is that of its settings (R185, R187). -/
def StoreImage.passes (image : StoreImage) : Bool := image.check == imageCheck image.settings

/-- A save begins: the snapshot is taken and the image is erased (R188). -/
def beginSave (s : State) : State :=
  { s with
    store.image := none
    store.dirty := false
    store.save := some { snapshot := s.settings, stage := .erasing, timer := saveUnits } }

/-- SAVE_STORE (R188). -/
def saveStoreRequest (l : Fin 4) (s : State) : State × Reply :=
  match saveStoreTests l s with
  | some st => (s, refuse st)
  | none => (beginSave s, { status := .ok })

/-- The stage after a stage (R188). -/
def nextStage : SaveStage → SaveStage
  | .erasing => .writing
  | .writing => .verifying
  | .verifying => .verifying

/-- A save's next stage begins (R188). -/
def saveStageBegins (s : State) : State :=
  { s with store.save := s.store.save.map fun k => { k with stage := nextStage k.stage } }

/-- The image that a save ended before its report leaves on the medium: the snapshot with its check value where its verification
had passed, else none that passes (R189, R190). -/
def imageLeft (k : Save) (verified : Bool) : Option StoreImage :=
  if verified && k.stage == .verifying then some (writtenImage k.snapshot) else none

/-- The store reports (R189): a report in IDLE is disregarded. DESIGN CHOICE (log entry 48): the outcome is taken at whatever stage
the save stands. -/
def saveReported (passed : Bool) (s : State) : State :=
  match s.store.save with
  | none => s
  | some k =>
    { s with
      store.save := none
      store.invalid := !passed
      store.image := if passed then some (writtenImage k.snapshot) else none }

/-- The save timer has run out (R189). -/
def saveExpires (verified : Bool) (s : State) : State :=
  match s.store.save with
  | none => s
  | some k =>
    if ranOut (some k.timer) then
      { s with
        store.save := none
        store.invalid := true
        store.image := imageLeft k verified }
    else s

end Sys2Proof.Machine
end

