-- ==== Sys2Proof/Machine/BankOps.lean ====
section
/-! DEFINITION. The requests on the journal's banks (R155 to R159). -/

namespace Sys2Proof.Machine

/-! ## CLOSEOUT (R155, R156) -/

/-- The tests of a CLOSEOUT (R174, R155). -/
def closeoutTests (l : Fin 4) (s : State) : Option Status :=
  firstFailed
    [(!permitted l .closeout s, .denied), ((bankAt (otherBank (activeBank s)) s).state != .empty, .bankBusy)]

/-- The state a closed bank takes: DRAINING while a car carries it, else SEALED (R156). -/
def closedState (b : BankId) (s : State) : BankState := if carsOn b s = 0 then .sealed else .draining

/-- The closed bank's new state, the cars carrying it and the new ACTIVE bank (R156). -/
def closeoutContents (b : BankId) (s : State) : List Byte :=
  put8 (bankStateCode (closedState b s)) ++ put8 (carsOn b s) ++ put8 (bankCode (otherBank b))

/-- CLOSEOUT's effect on the ACTIVE bank and the other (R156). -/
def closeBank (b : BankId) (s : State) : State :=
  let t := modifyBank (otherBank b) (fun _ => zeroedBank .active)
    (modifyBank b (fun k => { k with state := closedState b s }) s)
  let t := journalNotice closeoutKind b (closeoutContents b s) t
  if closedState b s = .sealed then sealedNotice b t else t

/-- CLOSEOUT (R155, R156). -/
def closeoutRequest (l : Fin 4) (s : State) : State × Reply :=
  match closeoutTests l s with
  | some st => (s, refuse st)
  | none =>
    let b := activeBank s
    (closeBank b s, { status := .ok, body := put8 (bankCode b) ++ closeoutContents b s })

/-! ## READ_JOURNAL (R158) -/

/-- The tests that READ_JOURNAL and RELEASE_BANK share (R174, R158, R159). -/
def bankTests (l : Fin 4) (bank : Nat) (s : State) : Option Status :=
  firstFailed
    [(!permitted l .closeout s, .denied), ((bankOf bank).isNone, .unknown),
     ((bankOf bank).any fun b => (bankAt b s).state != .sealed, .state)]

/-- The sequence a read starts from, or the answer that there is nothing to read (R158). -/
def readStart (k : Bank) (first : Option Nat) : Except Status Nat :=
  match first with
  | none => if k.unread = 0 then .error .empty else .ok (k.cursor + 1)
  | some f => if !within 1 bankCapacity f then .error .invalid else if k.written < f then .error .empty else .ok f

/-- The records a read returns: up to 4, as many whole records as fit (R158, R194). -/
def readRecords (k : Bank) (start : Nat) : List JournalRecord := fittingRecords 4 recordRoom (k.records.drop (start - 1))

/-- A read moves the cursor to the last record returned, unless it already stands beyond it (R158). -/
def Bank.readTo (last : Nat) (k : Bank) : Bank :=
  let cursor := max k.cursor last
  { k with cursor := cursor, unread := k.written - cursor }

/-- READ_JOURNAL (R158). DEDUCED (log entry 47): the answer EMPTY carries nothing; the header goes with the records returned. -/
def readJournalRequest (l : Fin 4) (bank : Nat) (first : Option Nat) (s : State) : State × Reply :=
  match bankTests l bank s, bankOf bank with
  | some st, _ => (s, refuse st)
  | none, none => (s, refuse .unknown)
  | none, some b =>
    match readStart (bankAt b s) first with
    | .error st => (s, refuse st)
    | .ok start =>
      let records := readRecords (bankAt b s) start
      let t := modifyBank b (Bank.readTo (start - 1 + records.length)) s
      (t, { status := .ok,
            body := put8 bank ++ putHeader (bankAt b t) ++ put16 start ++ putList putRecord records })

/-! ## RELEASE_BANK (R159) -/

/-- A SEALED bank becomes EMPTY (R159). -/
def releaseBank (b : BankId) (s : State) : State :=
  journalNotice releasedKind b (put16 (bankAt b s).unread) (modifyBank b (fun _ => zeroedBank .empty) s)

/-- RELEASE_BANK (R159). -/
def releaseBankRequest (l : Fin 4) (bank : Nat) (s : State) : State × Reply :=
  match bankTests l bank s, bankOf bank with
  | some st, _ => (s, refuse st)
  | none, none => (s, refuse .unknown)
  | none, some b => (releaseBank b s, { status := .ok, body := put16 (bankAt b s).unread })

end Sys2Proof.Machine
end

