-- ==== Sys2Proof/Machine/RehearsalOps.lean ====
section
/-! DEFINITION. REHEARSE and READ_TRACE (R163 to R167). -/

namespace Sys2Proof.Machine

/-! ## REHEARSE (R163, R164) -/

/-- The stored test profile of a number. -/
def testProfile (n : Nat) (s : State) : Option (List Sample) := (profileOf n).bind fun k => s.settings.testProfiles.get k

/-- The tests of a REHEARSE in their order (R174, R163). -/
def rehearseTests (l : Fin 4) (profile plan : Nat) (traced : Option Nat) (s : State) : Option Status :=
  firstFailed
    [(!permitted l .operate s, .denied),
     ((profileOf profile).isNone || decide (24 ≤ plan) || traced.any fun a => (archOf a).isNone, .unknown),
     (s.supervisor.tunnel != .closed, .state),
     (s.store.unconfigured || !layoutValid s || (testProfile profile s).isNone, .notReady),
     ((traced.bind archOf).any fun a => !followingArch a s, .invalid)]

/-- The phantom car (R164), with requirements 0 and the plan's maximum class until they are computed (R65, R68). -/
def newPhantom (n plan : Nat) (samples : List Sample) (s : State) : Car :=
  let p := planRecord plan s
  { number := n, phantom := true, ticket := none, lane := none, plan := some plan, maxClass := p.maxClass, extras := [],
    slot := none, total := 0, tender := none, services := p.services, bank := none, anchor := s.tracker.pos,
    origin := some s.tracker.pos, profile := .complete, samples := samples,
    rearExtent := ((s.settings.site.gaugeOffset + samplePitch * (samples.length - 1) : Nat) : Int), cls := p.maxClass,
    applied := none, inDomain := false, requirements := Vector.replicate 12 0,
    statuses := initialStatuses s.settings.layouts p.services, tags := [], tagsLost := 0, missing := false, unpaid := false,
    firstHalt := none, gaugeHeld := false, shadowed := [] }

/-- The trace ring is cleared and the rehearsal record set (R164). -/
def startRecord (profile plan : Nat) (traced : Option Nat) (n : Nat) (s : State) : State :=
  { s with
    trace := []
    rehearsal := { s.rehearsal with
      running := true, profile := some profile, plan := some plan, traced := traced.bind archOf, phantom := some n,
      endPos := advance s.tracker.pos s.settings.site.exitOffset, written := 0 } }

/-- The phantom car joins the table with its class, its entries and its place in the domain (R164, R68, R69). -/
def createPhantom (n plan : Nat) (samples : List Sample) (s : State) : State :=
  let car := newPhantom n plan samples s
  let s := { s with
    entry.carCounter := stepOn 65535 n
    entry.table := s.entry.table ++ [car] }
  let s := computeClass n (modifyCar n (wholeRequirements s) s)
  joinDomain n (insertReleases n (insertEngages n s))

/-- REHEARSE's effect (R164). -/
def beginRehearsal (profile plan : Nat) (traced : Option Nat) (samples : List Sample) (s : State) : State :=
  let n := nextCarNumber s
  let s := createPhantom n plan samples (startRecord profile plan traced n s)
  evaluateRun (recomputeClass (changeTunnel .rehearsal .rehearse 0 [] s))

/-- What the answer to a REHEARSE carries (R164). DEDUCED (log entry 42): n takes one byte, as in a car snapshot. -/
def rehearseBody (samples : List Sample) (s : State) : List Byte :=
  match phantomCar s with
  | none => []
  | some c => put16 c.number ++ put8 c.cls ++ put8 samples.length ++ putPos s.rehearsal.endPos

/-- REHEARSE (R163, R164). -/
def rehearseRequest (l : Fin 4) (profile plan : Nat) (traced : Option Nat) (s : State) : State × Reply :=
  match rehearseTests l profile plan traced s, testProfile profile s with
  | some st, _ => (s, refuse st)
  | none, none => (s, refuse .notReady)
  | none, some samples =>
    let t := beginRehearsal profile plan traced samples s
    (t, { status := .ok, body := rehearseBody samples t })

/-! ## READ_TRACE (R167) -/

/-- The rehearsal record without the last summary, 10 bytes (12_formats_and_connections.md). -/
def putRehearsalRecord (r : Rehearsal) : List Byte :=
  putFlag r.running ++ putOnes8 r.profile ++ putOnes8 r.plan ++ putOnes8 (r.traced.map (·.val)) ++ putZero16 r.phantom
    ++ putPos r.endPos ++ put16 r.written

def putTraceEntry (e : TraceEntry) : List Byte :=
  putPos e.position ++ put16 e.target ++ put16 e.command ++ putSigned e.deficit

/-- READ_TRACE (R167): up to 12 entries from the oldest held, or from the number named. -/
def readTraceReply (first : Option Nat) (s : State) : Reply :=
  let record := putRehearsalRecord s.rehearsal
  let entries := s.trace.filter fun e => decide (first.getD 0 ≤ e.number)
  match s.trace.head?, s.trace.getLast?, entries with
  | some oldest, some newest, e :: rest =>
    { status := .ok,
      body := record ++ put16 oldest.number ++ put16 newest.number ++ put16 e.number
        ++ putList putTraceEntry ((e :: rest).take 12) }
  | _, _, _ => { status := .empty, body := record }

end Sys2Proof.Machine
end

