-- ==== Sys2Proof/Machine/QueryOps.lean ====
section
/-! DEFINITION. QUERY_TUNNEL and QUERY_STATUS (R14, R31, R73, R97, R142, R162, R170, R182, R192). -/

namespace Sys2Proof.Machine

/-! ## QUERY_TUNNEL (R97) -/

/-- The watched car. -/
def watchedCar : Watch → Option Nat
  | .idle => none
  | .searching n => some n
  | .sampling n _ _ _ _ => some n

/-- A treadle's line reading, 1 for closed (log entry 44), and wheel state, with the mark when REAR (R97). -/
def putTreadle (closed : Bool) (w : Wheel) : List Byte :=
  putFlag closed ++ put8 (wheelCode w)
    ++ match w with
      | .front => putOnes16 none
      | .rear mark => putPos mark

/-- The call state and the remembered ticket (R97). -/
def putCalls (e : Entry) : List Byte :=
  putZero16 (e.call.map (·.ticket)) ++ putZero8 (e.call.map fun k => laneNumber k.lane) ++ putOnes16 (e.call.map (·.timer))
    ++ putZero16 (e.remembered.map (·.ticket)) ++ putOnes16 (e.remembered.map (·.timer))

/-- The tracker's six values (R14). -/
def putTracker (t : Tracker) : List Byte :=
  putPos t.pos ++ putPos t.high ++ put8 (runCode t.run) ++ put8 t.commanded ++ put8 t.settle ++ putFlag t.rolledBack

/-- QUERY_TUNNEL without a car (R97), then what R14, R31, R73 and R142 add, in that order. A loop reading is 1 for asserted (log
entry 44), a lane signal 1 for GO and 2 for STOP (log entry 45). -/
def putTunnel (s : State) : List Byte :=
  putList put16 (carNumbers s) ++ putCalls s.entry ++ s.entry.signals.toList.flatMap (fun go => put8 (signalCode go))
    ++ s.entry.loops.toList.flatMap putFlag ++ putTreadle s.entry.entryClosed s.entry.entryWheel
    ++ putTreadle s.entry.exitClosed s.entry.exitWheel ++ putFlag (gapNow s) ++ put16 s.entry.carCounter
    ++ putTracker s.tracker ++ put8 (watchCode s.station.watch) ++ putZero16 (watchedCar s.station.watch)
    ++ putList put16 ((s.entry.table.filter (·.inDomain)).map (·.number))
    ++ put8 (tunnelStateCode s.supervisor.tunnel) ++ putZero16 (s.supervisor.halt.map (·.number))

/-- The four flags of a car snapshot: phantom, UNPAID, MISSING, in domain (12_formats_and_connections.md). DEDUCED (log entry 55): they
stand at bits 0 to 3 in the order in which they are named. -/
def carFlags (c : Car) : Nat :=
  (if c.phantom then 1 else 0) + (if c.unpaid then 2 else 0) + (if c.missing then 4 else 0) + (if c.inDomain then 8 else 0)

/-- The services field of a snapshot: a count, then 16 pairs, unused pairs 0xFF, 0xFF (12_formats_and_connections.md). -/
def putSnapshotServices (l : List ServicePress) : List Byte :=
  put8 l.length ++ (l.flatMap (fun x : ServicePress => put8 x.service ++ put8 x.press) ++ List.replicate 32 0xFF).take 32

/-- A car snapshot, 83 bytes (12_formats_and_connections.md). -/
def putCar (c : Car) : List Byte :=
  put16 c.number ++ put8 (carFlags c) ++ putZero16 c.ticket ++ putZero8 (c.lane.map laneNumber) ++ putOnes8 c.plan
    ++ put8 c.maxClass ++ putExtras c.extras ++ putOnes8 c.slot ++ put32 c.total ++ putZero8 (c.tender.map tenderCode)
    ++ putZero8 (c.bank.map bankCode) ++ putPos c.anchor ++ put8 (profileStateCode c.profile) ++ putPos (c.origin.getD 0)
    ++ put8 c.samples.length ++ putSigned c.rearExtent ++ put8 c.cls ++ putZero8 c.applied
    ++ c.statuses.toList.flatMap (fun st => put8 (archStatusCode st)) ++ putSnapshotServices c.services
    ++ putTags c.tags c.tagsLost ++ putZero16 c.firstHalt

/-- QUERY_TUNNEL (R97): the tunnel, a car's snapshot, or up to 16 of its samples. DESIGN CHOICE (log entry 52): where no car is named, a
first sample index is ignored. -/
def queryTunnelReply (car : Option Nat) (first : Option Nat) (s : State) : Reply :=
  match car with
  | none => { status := .ok, body := putTunnel s }
  | some n =>
    match findCar n s, first with
    | none, _ => refuse .unknown
    | some c, none => { status := .ok, body := putCar c }
    | some c, some i =>
      if c.samples.length ≤ i then refuse .invalid
      else { status := .ok, body := put16 c.number ++ put8 i ++ putList putSample ((c.samples.drop i).take 16) }

/-! ## QUERY_STATUS (R192) -/

/-- The STORE section (R192). DEDUCED (log entry 49): whether a layout is present and whether it is valid are two flags. -/
def putStore (s : State) : List Byte :=
  putFlag s.store.unconfigured ++ putFlag s.store.dirty ++ putFlag s.store.invalid ++ put8 (saveStateCode s.store.save)
    ++ putOnes8 (s.store.save.map fun k => saveStageCode k.stage) ++ putOnes16 (s.store.save.map (·.timer))
    ++ putSite s.settings.site ++ putFlag s.store.layoutPresent ++ putFlag (layoutValid s)

/-- One link (R182). A request is in progress on the requesting link: this one (R173; log entry 22). -/
def putLink (asking : Fin 4) (s : State) (l : Fin 4) : List Byte :=
  let k := linkAt l s
  putAccess (accessAt l s) ++ put8 (receiverCode k.receiver) ++ putFlag (k.waiting.isSome || l == asking)
    ++ putFlag k.pendingFrame.isSome ++ put16 k.queue.length ++ putFlag k.overrun ++ putFlag k.noticesLost
    ++ put16 k.errors ++ put16 k.timeouts

/-- The LINKS section (R182). -/
def putLinks (asking : Fin 4) (s : State) : List Byte :=
  allLinks.flatMap (putLink asking s) ++ putFlag s.strap ++ putList (fun r : Nat × Nat => put8 r.1 ++ put8 r.2) s.locks

/-- The JOURNAL section (R162). -/
def putJournal (s : State) : List Byte :=
  putHeader s.journal.bankA ++ putHeader s.journal.bankB ++ put8 (bankCode (activeBank s)) ++ put8 (carsOn .bankA s)
    ++ put8 (carsOn .bankB s)

/-- The PROFILES section (R31): for each number whether it is set and its n, then its staging record's link, n and next index
(log entry 23). The lengths n take 2 bytes (R194; log entry 42). -/
def putProfiles (s : State) : List Byte :=
  ([0, 1] : List (Fin 2)).flatMap fun k =>
    let p := s.settings.testProfiles.get k
    let g := s.station.staging.get k
    putFlag p.isSome ++ putOnes16 (p.map (·.length)) ++ putOnes8 (g.map (·.link.val)) ++ putOnes16 (g.map (·.length))
      ++ putOnes8 (g.map (·.next))

/-- The REHEARSAL section: the last summary (R170), or car number 0 for none. -/
def putLastSummary (s : State) : List Byte :=
  match s.rehearsal.last with
  | none => putZero16 none
  | some m => putSummary m

/-- QUERY_STATUS (R192): sections from 1, STORE, LINKS, JOURNAL, PROFILES, REHEARSAL (R195). -/
def queryStatusReply (l : Fin 4) (part : Nat) (s : State) : Reply :=
  match part with
  | 1 => { status := .ok, body := putStore s }
  | 2 => { status := .ok, body := putLinks l s }
  | 3 => { status := .ok, body := putJournal s }
  | 4 => { status := .ok, body := putProfiles s }
  | 5 => { status := .ok, body := putLastSummary s }
  | _ => refuse .unknown

end Sys2Proof.Machine
end

