-- ==== Sys2Proof/Machine/LinkOps.lean ====
section
/-! DEFINITION. The station links: frames taken as requests, responses, the receiver and the transmit queue (R171 to R176). -/

namespace Sys2Proof.Machine

/-! ## Requests -/

/-- A query answers and changes nothing. -/
def query (r : Reply) (s : State) : State × Reply := (s, r)

/-- A request is acted on by its owner; a command that no frame carries is no request (R174). -/
def runRequest (i : Instr) (s : State) : State × Reply :=
  match i with
  | .quote l plan extras slot lane => quoteRequest l plan extras slot lane s
  | .confirm l ticket tender => confirmRequest l ticket tender s
  | .cancel l ticket => cancelRequest l ticket s
  | .voidTicket l ticket => voidRequest l ticket s
  | .requeue l ticket => requeueRequest l ticket s
  | .queryTickets _ ticket first => query (queryTicketsReply ticket first s) s
  | .halt l => haltRequest l s
  | .pullCar l car => pullCarRequest l car s
  | .openTunnel l => openTunnelRequest l s
  | .closeTunnel l => closeTunnelRequest l s
  | .restart l => restartRequest l s
  | .clearTunnel l => clearTunnelRequest l s
  | .queryTunnel _ car first => query (queryTunnelReply car first s) s
  | .queryHalt _ part => query (queryHaltReply part s) s
  | .setArchService l arch setting => setArchServiceRequest l arch setting s
  | .clearJam l arch => clearJamRequest l arch s
  | .queryArch _ arch first => query (queryArchReply arch first s) s
  | .editPlan l plan record => editPlanRequest l plan record s
  | .editExtra l extra record => editExtraRequest l extra record s
  | .editDiscount l slot record => editDiscountRequest l slot record s
  | .editService l service name => editServiceRequest l service name s
  | .lockRange l first last => lockRangeRequest l first last s
  | .queryCatalog _ kind number => query (queryCatalogReply kind number s) s
  | .setArch l arch record => setArchRequest l arch record s
  | .setGauge l gauge first values => setGaugeRequest l gauge first values s
  | .setSite l site => setSiteRequest l site s
  | .setTestProfile l profile length first samples => setTestProfileRequest l profile length first samples s
  | .setAccess l target entry => setAccessRequest l target entry s
  | .saveStore l => saveStoreRequest l s
  | .queryStatus l part => query (queryStatusReply l part s) s
  | .closeout l => closeoutRequest l s
  | .readJournal l bank first => readJournalRequest l bank first s
  | .releaseBank l bank => releaseBankRequest l bank s
  | .rehearse l profile plan traced => rehearseRequest l profile plan traced s
  | .readTrace _ first => query (readTraceReply first s) s
  | .subscribe l set => subscribeRequest l set s
  | .unknownKindRequest _ _ _ => (s, refuse .unknown)
  | .receiveByte _ _ => (s, refuse .unknown)
  | .interByteTimeout _ => (s, refuse .unknown)
  | .transmitByteSent _ => (s, refuse .unknown)
  | .responsePlaced _ => (s, refuse .unknown)
  | .pendingFrameTaken _ => (s, refuse .unknown)
  | .encoderLineChange _ _ _ => (s, refuse .unknown)
  | .conveyorStall => (s, refuse .unknown)
  | .loadCodeReceived _ _ => (s, refuse .unknown)
  | .homeSwitchChange _ _ => (s, refuse .unknown)
  | .returnTimeout _ => (s, refuse .unknown)
  | .entryTreadleClosing => (s, refuse .unknown)
  | .treadleOpening _ => (s, refuse .unknown)
  | .exitTreadleClosing => (s, refuse .unknown)
  | .presenceLoopChange _ _ => (s, refuse .unknown)
  | .callLapse => (s, refuse .unknown)
  | .graceExpiry => (s, refuse .unknown)
  | .holdExpiry _ => (s, refuse .unknown)
  | .estopLineChange _ => (s, refuse .unknown)
  | .restartWindowExpiry => (s, refuse .unknown)
  | .saveStageBegin => (s, refuse .unknown)
  | .saveReport _ => (s, refuse .unknown)
  | .saveTimeout _ => (s, refuse .unknown)
  | .rollerPulseEnd => (s, refuse .unknown)
  | .powerOnReset _ _ => (s, refuse .unknown)
  | .lineReset _ _ => (s, refuse .unknown)
  | .lossOfSupply _ => (s, refuse .unknown)

/-- A request's answer is offered to its link first, then its notices to every link addressed (R175, R176). -/
def answer (l : Fin 4) (kind : Byte) (x : State × Reply) : State :=
  flush (offerResponse l { kind := kind, status := x.2.status, body := x.2.body } x.1)

/-- A frame is taken as a request: kind and body are checked, then its owner acts (R174). -/
def takeFrame (l : Fin 4) (f : Frame) (s : State) : State :=
  match decodeRequest l f with
  | .error st => answer l f.kind (s, refuse st)
  | .ok i => answer l f.kind (runRequest i s)

/-! ## Arrival of a frame (R173) -/

/-- The frame becomes the pending frame. -/
def holdFrame (l : Fin 4) (f : Frame) (s : State) : State := modifyLink l (fun k => { k with pendingFrame := some f }) s

/-- The frame is discarded and the overrun flag set. -/
def overrunLink (l : Fin 4) (s : State) : State := modifyLink l (fun k => { k with overrun := true }) s

/-- The pending frame is taken as a request once no request is in progress (R173). -/
def takePending (l : Fin 4) (s : State) : State :=
  match (linkAt l s).waiting, (linkAt l s).pendingFrame with
  | none, some f => takeFrame l f (modifyLink l (fun k => { k with pendingFrame := none }) s)
  | none, none => s
  | some _, none => s
  | some _, some _ => s

/-- A frame arrives while no frame is pending: taken at once, or held while a request is in progress (R173). -/
def takeOrHold (l : Fin 4) (f : Frame) (act : State → State) (s : State) : State :=
  if (linkAt l s).waiting.isNone then act s else holdFrame l f s

/-- A complete frame arrives (R173): taken, held or discarded. A frame that finds the request ended and a frame still pending
comes after it: the pending frame is taken first. -/
def arrive (l : Fin 4) (f : Frame) (act : State → State) (s : State) : State :=
  if (linkAt l s).pendingFrame.isNone then takeOrHold l f act s
  else if (linkAt l s).waiting.isSome then overrunLink l s
  else takeOrHold l f act (takePending l s)

/-- The frame of a request command. -/
def requestFrame (i : Instr) : Frame := (encodeRequest i).getD { kind := 0, body := [] }

/-- A request command: its frame arrives and its owner acts (R173, R174). -/
def requestArrives (l : Fin 4) (i : Instr) (run : State → State × Reply) (s : State) : State :=
  arrive l (requestFrame i) (fun t => answer l (requestFrame i).kind (run t)) s

/-! ## The receiver (R171, R172) -/

/-- The partial frame is discarded and the receiver returns to HUNT (R171). -/
def Link.hunt (k : Link) : Link := { k with receiver := .hunt, timer := none }

/-- A frame is discarded and the error count rises (R171). -/
def Link.lineError (k : Link) : Link := { k.hunt with errors := stopAt16 k.errors }

/-- The receiver moves on and the inter-byte timer starts (R172). -/
def Link.expect (r : Receiver) (k : Link) : Link := { k with receiver := r, timer := some interByteUnits }

/-- The sum of length, kind, body and check is a multiple of 256 (R171). -/
def checkPasses (length : Nat) (got : List Byte) (check : Byte) : Bool :=
  got.foldl (· + ·) (BitVec.ofNat 8 length) + check == 0

/-- A complete frame from the bytes of BODY. -/
def frameOf : List Byte → Option Frame
  | [] => none
  | kind :: body => some { kind := kind, body := body }

/-- A byte is taken by the receiver (R171, R172). -/
def receive (l : Fin 4) (b : Byte) (s : State) : State :=
  match (linkAt l s).receiver with
  | .hunt => if b = 0xA5 then modifyLink l (Link.expect .length) s else s
  | .length =>
    if 1 ≤ b.toNat ∧ b.toNat ≤ maxLength then modifyLink l (Link.expect (.body b.toNat [])) s
    else modifyLink l Link.lineError s
  | .body n got =>
    if n ≤ got.length + 1 then modifyLink l (Link.expect (.check n (got ++ [b]))) s
    else modifyLink l (Link.expect (.body n (got ++ [b]))) s
  | .check n got =>
    match checkPasses n got b, frameOf got with
    | true, some f => arrive l f (takeFrame l f) (modifyLink l Link.hunt s)
    | true, none => modifyLink l Link.lineError s
    | false, _ => modifyLink l Link.lineError s

/-- The inter-byte timer has run out (R172). A byte taken first has started it again. -/
def Link.timeOut (k : Link) : Link :=
  if ranOut k.timer then { k.hunt with timeouts := stopAt16 k.timeouts } else k

/-! ## The transmit queue (R175, R176) -/

/-- A byte leaves the queue. -/
def byteSent (l : Fin 4) (s : State) : State := modifyLink l (fun k => { k with queue := k.queue.drop 1 }) s

/-- A waiting response is placed once there is room for the whole frame (R175). -/
def placeWaiting (l : Fin 4) (s : State) : State :=
  match (linkAt l s).waiting with
  | none => s
  | some r => if hasRoom (linkAt l s) (responseFrame r (linkAt l s) s) then placeResponse l r s else s

end Sys2Proof.Machine
end

