-- ==== Sys2Proof/Machine/StartOps.lean ====
section
/-! DEFINITION. Starts, loss of supply, and the passage of 10 ms (R15, R32, R54, R74, R98, R123, R143, R144, R161, R170, R183, R187,
R190, R191). -/

namespace Sys2Proof.Machine

/-! ## The image -/

/-- The image that a start or a loss of supply finds on the medium: a save in flight has ended (R190). -/
def mediumImage (verified : Bool) (s : State) : Option StoreImage :=
  match s.store.save with
  | none => s.store.image
  | some k => imageLeft k verified

/-- The settings that a start loads: those of an image that passes its check (R187). -/
def loadable (image : Option StoreImage) : Option Settings := (image.filter StoreImage.passes).map (·.settings)

/-- Step 2 of a start: the image is loaded where it passes its check, else UNCONFIGURED values are set; the strap is read (R187,
R180). -/
def loadImage (lines : LineLevels) (s : State) : State :=
  match loadable s.store.image with
  | some settings =>
    { s with
      settings := settings
      store := { image := s.store.image, dirty := false, invalid := false, unconfigured := false, layoutPresent := true,
                 save := none }
      strap := lines.strap }
  | none =>
    { s with
      settings := unconfiguredSettings
      store := { image := s.store.image, dirty := false, invalid := true, unconfigured := true, layoutPresent := false,
                 save := none }
      strap := lines.strap }

/-! ## The blocks -/

/-- An arch at a reset: the flag from its initial service, the command home, a following kind starting a return (R54). -/
def startArch (r : Layout) (site : Site) (homeClosed : Bool) : Arch :=
  Arch.goHome r site
    { restingArch with command := r.maximum, outOfService := r.initiallyOut, homeClosed := homeClosed }

/-- Step 3 of a start: each block takes its reset values and reads its lines; the links and the journal are left to the reset
that makes them (R15, R32, R54, R74, R98, R123, R143, R170, R183). -/
def resetBlocks (lines : LineLevels) (s : State) : State :=
  { s with
    tracker := { State.reset.tracker with phase := lines.phase }
    station := State.reset.station
    arches := tabulate fun a => startArch (s.settings.layouts.get a) s.settings.site (lines.homeClosed.get a)
    trace := []
    entry := { State.reset.entry with
      loops := lines.loops, entryClosed := lines.entryClosed, exitClosed := lines.exitClosed }
    sales := State.reset.sales
    supervisor := { State.reset.supervisor with estop := lines.estop }
    locks := []
    rehearsal := State.reset.rehearsal
    powered := true
    raised := []
    outbox := [] }

/-- Step 5 of a start: an asserted emergency stop makes halt record 1 in CLOSED (R144). -/
def estopAtStart (s : State) : State := if s.supervisor.estop then takeCause .estop s else s

/-- Steps 2 to 5 of a start (R191). -/
def start (lines : LineLevels) (s : State) : State :=
  estopAtStart (setAvailability (resetBlocks lines (loadImage lines s)))

/-! ## Resets -/

/-- Loss of supply: the image is as the save rules leave it and everything else is lost (R190). DESIGN CHOICE (log entry 9): the
values that stand while the part has no supply are those of State.reset. -/
def loseSupply (verified : Bool) (s : State) : State :=
  { State.reset with
    store := { State.reset.store with image := mediumImage verified s }
    powered := false
    pending := s.pending }

/-- Power-on reset (R191): a part that still has supply has lost it first. -/
def powerOn (lines : LineLevels) (verified : Bool) (s : State) : State :=
  start lines (if s.powered then loseSupply verified s else s)

/-- Every PAID, CALLED and STALLED ticket is submitted RESET_LOST in the order of quoting; HELD tickets are dropped (R160). -/
def loseTickets (s : State) : State :=
  (s.sales.tickets.filter fun t => t.state != .held).foldl (fun u t => submitTicket t .resetLost u) s

/-- Of the notices of a line reset's writes, the journal notices alone are sent, as the subscriptions stood (R183, R160). -/
def sendJournalNotices (s : State) : State := flush { s with outbox := s.outbox.filter fun n => n.type == .journal }

/-- Step 1 of a start at line reset: the links are cleared, everything in flight is recorded, a save ends (R183, R160, R190). -/
def recordInFlight (verified : Bool) (s : State) : State :=
  let s := { s with links := Vector.replicate 4 restingLink, raised := [], outbox := [] }
  let s := sendJournalNotices (loseTickets (removeAll .resetLost s))
  { s with store.image := mediumImage verified s }

/-- Line reset (R191). -/
def resetLine (lines : LineLevels) (verified : Bool) (s : State) : State := start lines (recordInFlight verified s)

/-! ## The passage of 10 ms -/

/-- A timer loses a unit, and stands at 0 units left until its expiry is taken. -/
def countDown (timer : Option Nat) : Option Nat := timer.map (· - 1)

/-- Every running timer loses one unit of 10 ms. DESIGN CHOICE (log entry 5): this is what a step on an empty queue does. -/
def passUnit (s : State) : State :=
  { s with
    tracker.stall := countDown s.tracker.stall
    arches := mapAll (fun x => { x with timer := countDown x.timer }) s.arches
    entry.call := s.entry.call.map fun k => { k with timer := k.timer - 1 }
    entry.remembered := s.entry.remembered.map fun r => { r with timer := r.timer - 1 }
    entry.roller := countDown s.entry.roller
    sales.tickets := s.sales.tickets.map fun t => { t with hold := countDown t.hold }
    supervisor.restart := s.supervisor.restart.map fun a => { a with timer := a.timer - 1 }
    links := mapAll (fun k => { k with timer := countDown k.timer }) s.links
    store.save := s.store.save.map fun k => { k with timer := k.timer - 1 } }

/-- The block idles (log entry 5): a part with supply counts its timers, one without does nothing. -/
def idle (s : State) : State := if s.powered then passUnit s else s

end Sys2Proof.Machine
end

