-- ==== Sys2Proof/Machine/Event.lean ====
section
/-! DEFINITION. How a command takes effect: an event is handled whole, then the causes it raised are taken and its notices
offered (R63, R176). -/

namespace Sys2Proof.Machine

/-- The end of an event: causes not yet taken are taken, and the event's notices are offered (R63, R176). -/
def settleEvent (s : State) : State := flush (takeCauses s)

/-- An event on a part that has supply; a part that has lost its supply does nothing until power-on reset (R190, R191). The
queue of commands is the model's own and no event touches it. -/
def event (f : State → State) (s : State) : Host.Outcome State Fault Refusal :=
  if s.powered then .next { settleEvent (f s) with pending := s.pending } else .next s

/-- A start, or the loss of the supply: it takes effect with or without supply (R190, R191). -/
def supplyEvent (f : State → State) (s : State) : Host.Outcome State Fault Refusal :=
  .next { settleEvent (f s) with pending := s.pending }

/-- A request command: its frame arrives on its link (R173). -/
def request (l : Fin 4) (i : Instr) (run : State → State × Reply) (s : State) : Host.Outcome State Fault Refusal :=
  event (requestArrives l i run) s

end Sys2Proof.Machine
end

