-- ==== Sys2Proof/Machine/ExecArch.lean ====
section
/-! DEFINITION. The commands of the Arch Channels (R33, R35, R49, R51, R53). -/

namespace Sys2Proof.Machine

/-- SET_ARCH_SERVICE (R49). -/
def execSetArchService (l : Fin 4) (arch : Nat) (setting : Nat) (s : State) : Host.Outcome State Fault Refusal :=
  request l (.setArchService l arch setting) (setArchServiceRequest l arch setting) s

/-- CLEAR_JAM (R51). -/
def execClearJam (l : Fin 4) (arch : Nat) (s : State) : Host.Outcome State Fault Refusal :=
  request l (.clearJam l arch) (clearJamRequest l arch) s

/-- QUERY_ARCH (R53). -/
def execQueryArch (l : Fin 4) (arch : Nat) (first : Option Nat) (s : State) : Host.Outcome State Fault Refusal :=
  request l (.queryArch l arch first) (fun t => query (queryArchReply arch first t) t) s

/-- SET_ARCH (R33, R35). -/
def execSetArch (l : Fin 4) (arch : Nat) (record : LayoutArg) (s : State) : Host.Outcome State Fault Refusal :=
  request l (.setArch l arch record) (setArchRequest l arch record) s

end Sys2Proof.Machine
end

