-- ==== Sys2Proof/Machine/ExecCatalog.lean ====
section
/-! DEFINITION. The commands on the catalog (R99 to R103, R122, R181). -/

namespace Sys2Proof.Machine

/-- EDIT_PLAN (R100, R101). -/
def execEditPlan (l : Fin 4) (plan : Nat) (record : Plan) (s : State) : Host.Outcome State Fault Refusal :=
  request l (.editPlan l plan record) (editPlanRequest l plan record) s

/-- EDIT_EXTRA (R102). -/
def execEditExtra (l : Fin 4) (extra : Nat) (record : Extra) (s : State) : Host.Outcome State Fault Refusal :=
  request l (.editExtra l extra record) (editExtraRequest l extra record) s

/-- EDIT_DISCOUNT (R103). -/
def execEditDiscount (l : Fin 4) (slot : Nat) (record : DiscountArg) (s : State) : Host.Outcome State Fault Refusal :=
  request l (.editDiscount l slot record) (editDiscountRequest l slot record) s

/-- EDIT_SERVICE (R99). -/
def execEditService (l : Fin 4) (service : Nat) (name : List Byte) (s : State) : Host.Outcome State Fault Refusal :=
  request l (.editService l service name) (editServiceRequest l service name) s

/-- LOCK_RANGE (R181). -/
def execLockRange (l : Fin 4) (first : Nat) (last : Nat) (s : State) : Host.Outcome State Fault Refusal :=
  request l (.lockRange l first last) (lockRangeRequest l first last) s

/-- QUERY_CATALOG (R122). -/
def execQueryCatalog (l : Fin 4) (kind : Nat) (number : Nat) (s : State) : Host.Outcome State Fault Refusal :=
  request l (.queryCatalog l kind number) (fun t => query (queryCatalogReply kind number t) t) s

end Sys2Proof.Machine
end

