-- ==== Sys2Proof/Machine/ExecJournal.lean ====
section
/-! DEFINITION. The commands on the journal's banks (R155 to R159). -/

namespace Sys2Proof.Machine

/-- CLOSEOUT (R155, R156). -/
def execCloseout (l : Fin 4) (s : State) : Host.Outcome State Fault Refusal :=
  request l (.closeout l) (closeoutRequest l) s

/-- READ_JOURNAL (R158). -/
def execReadJournal (l : Fin 4) (bank : Nat) (first : Option Nat) (s : State) : Host.Outcome State Fault Refusal :=
  request l (.readJournal l bank first) (readJournalRequest l bank first) s

/-- RELEASE_BANK (R159). -/
def execReleaseBank (l : Fin 4) (bank : Nat) (s : State) : Host.Outcome State Fault Refusal :=
  request l (.releaseBank l bank) (releaseBankRequest l bank) s

end Sys2Proof.Machine
end

