-- ==== Sys2Proof/Machine/Pitch.lean ====
section
/-! DEFINITION. A change on the encoder lines: forward pitches delivered to the blocks, reverse pitches, skipped states (R1 to
R6). -/

namespace Sys2Proof.Machine

/-- The blocks that act on a forward pitch, in their listed order (R3). -/
def allBlocks : List PitchBlock := .station :: (allArches.map PitchBlock.arch ++ [.entryExit])

/-- The order of action on a pitch: each block acts once; blocks that the order leaves out act afterwards in their listed
order; the Supervisor takes causes wherever it is named (R3, R63). -/
def completeOrder (order : List PitchBlock) : List PitchBlock :=
  let once := order.foldl (fun acc b => if b ≠ .supervisor ∧ b ∈ acc then acc else acc ++ [b]) []
  once ++ allBlocks.filter fun b => decide (b ∉ once)

/-- What a forward pitch event carries, with the arch entries that stand before it (R3, R42). -/
structure PitchEvent where
  position : Pos
  settle : Nat
  gauges : GaugeCodes
  before : Vector (List ArchEvent) 12
  deriving DecidableEq, Repr

/-- One block acts on the pitch; the gap is noted as the control finds it when it has acted (R79). -/
def blockActs (e : PitchEvent) (x : State × Bool) (b : PitchBlock) : State × Bool :=
  match b with
  | .station => (stationPitch e.position e.gauges x.1, x.2)
  | .arch a => (archPitch a e.position e.settle (e.before.get a) x.1, x.2)
  | .entryExit =>
    let s := controlPitch e.position x.1
    (s, gapSatisfied e.position s)
  | .supervisor => (takeCauses x.1, x.2)

/-- The event of a forward pitch, as the tracker's update leaves it (R3). -/
def pitchEvent (g : GaugeCodes) (s : State) : PitchEvent :=
  { position := s.tracker.pos, settle := s.tracker.settle, gauges := g, before := tabulate fun a => eventList a s }

/-- A forward pitch: the tracker's update, the blocks in their order, the causes raised, the arbiter (R2, R3, R63, R81). -/
def forwardPitch (g : GaugeCodes) (order : List PitchBlock) (s : State) : State :=
  let s := { s with tracker := s.tracker.forward s.settings.site.rollback (fullStall s) }
  let x := (completeOrder order).foldl (blockActs (pitchEvent g s)) (s, false)
  arbitrateWith x.2 (takeCauses x.1)

/-- H − P read as signed is beyond the rollback allowance (R5). -/
def beyondRollback (s : State) : Bool := decide ((s.settings.site.rollback : Int) < signedDiff s.tracker.high s.tracker.pos)

/-- A reverse pitch: P falls, and the first pitch beyond the allowance raises CONVEYOR_REVERSE (R4, R5). -/
def reversePitch (s : State) : State :=
  let s := { s with tracker := s.tracker.reverse }
  if beyondRollback s && !s.tracker.rolledBack then takeCause .conveyorReverse { s with tracker.rolledBack := true } else s

/-- A skipped state raises ENCODER_SLIP and moves nothing (R6). -/
def skippedState (s : State) : State := takeCause .encoderSlip s

/-- The class of a change on the encoder lines (R1). -/
inductive EncoderStep where
  | still | forward | skipped | reverse
  deriving DecidableEq, Repr

/-- The new phase against the reference phase (R1). -/
def classifyPhase (reference phase : Fin 4) : EncoderStep :=
  match phase - reference with
  | 0 => .still
  | 1 => .forward
  | 2 => .skipped
  | 3 => .reverse

/-- A change on the encoder lines (R1): the new phase becomes the reference phase. -/
def encoderChange (phase : Fin 4) (g : GaugeCodes) (order : List PitchBlock) (s : State) : State :=
  let step := classifyPhase s.tracker.phase phase
  let s := { s with tracker.phase := phase }
  match step with
  | .still => s
  | .forward => forwardPitch g order s
  | .skipped => skippedState s
  | .reverse => reversePitch s

end Sys2Proof.Machine
end

