-- ==== Sys2Proof/Machine/LineOps.lean ====
section
/-! DEFINITION. The line events and expiries that no block's file gives (R10, R81, R196). -/

namespace Sys2Proof.Machine

/-- The stall timer has run out (R10): idle, and CONVEYOR_STALL. A pitch taken first has started it again, and the expiry does not
happen (R11). -/
def stallExpires (s : State) : State :=
  if ranOut s.tracker.stall then takeCause .conveyorStall { s with tracker.stall := none } else s

/-- A presence loop is asserted or negated, and the arbiter evaluates (R81). -/
def loopChange (lane : Fin 3) (asserted : Bool) (s : State) : State :=
  arbitrate { s with entry.loops := s.entry.loops.set lane.val asserted lane.isLt }

/-- The roller-up pulse has run out (R196): the actuator is at rest. An admission taken first has started it again. -/
def pulseEnds (s : State) : State := if ranOut s.entry.roller then { s with entry.roller := none } else s

end Sys2Proof.Machine
end

