-- ==== Sys2Proof/Machine/ExecLines.lean ====
section
/-! DEFINITION. The line events of the conveyor, the arches, the treadles, the loops and the emergency stop (R1, R45, R48, R81, R86, R87,
R93, R128). -/

namespace Sys2Proof.Machine

/-- ENCODER_LINE_CHANGE (R1 to R6). -/
def execEncoderLineChange (phase : Fin 4) (gauges : GaugeCodes) (order : List PitchBlock) (s : State) :
    Host.Outcome State Fault Refusal :=
  event (encoderChange phase gauges order) s

/-- LOAD_CODE_RECEIVED (R45). -/
def execLoadCodeReceived (arch : Fin 12) (code : Byte) (s : State) : Host.Outcome State Fault Refusal :=
  event (loadCode arch code) s

/-- HOME_SWITCH_CHANGE (R48). -/
def execHomeSwitchChange (arch : Fin 12) (closed : Bool) (s : State) : Host.Outcome State Fault Refusal :=
  event (homeSwitch arch closed) s

/-- ENTRY_TREADLE_CLOSING (R86, R87). -/
def execEntryTreadleClosing (s : State) : Host.Outcome State Fault Refusal :=
  event entryClosing s

/-- TREADLE_OPENING (R86). -/
def execTreadleOpening (treadle : Treadle) (s : State) : Host.Outcome State Fault Refusal :=
  event (treadleOpens treadle) s

/-- EXIT_TREADLE_CLOSING (R86, R93). -/
def execExitTreadleClosing (s : State) : Host.Outcome State Fault Refusal :=
  event exitClosing s

/-- PRESENCE_LOOP_CHANGE (R81). -/
def execPresenceLoopChange (lane : Fin 3) (asserted : Bool) (s : State) : Host.Outcome State Fault Refusal :=
  event (loopChange lane asserted) s

/-- ESTOP_LINE_CHANGE (R128). -/
def execEstopLineChange (asserted : Bool) (s : State) : Host.Outcome State Fault Refusal :=
  event (estopChange asserted) s

end Sys2Proof.Machine
end

