-- ==== Sys2Proof/Machine/ExecLink.lean ====
section
/-! DEFINITION. The commands of a station link (R171 to R176). -/

namespace Sys2Proof.Machine

/-- UNKNOWN_KIND_REQUEST (R174). -/
def execUnknownKindRequest (l : Fin 4) (kind : Byte) (body : List Byte) (s : State) : Host.Outcome State Fault Refusal :=
  event (arrive l { kind := kind, body := body } (takeFrame l { kind := kind, body := body })) s

/-- RECEIVE_BYTE (R171, R172). -/
def execReceiveByte (l : Fin 4) (byte : Byte) (s : State) : Host.Outcome State Fault Refusal :=
  event (receive l byte) s

/-- INTER_BYTE_TIMEOUT (R172). -/
def execInterByteTimeout (l : Fin 4) (s : State) : Host.Outcome State Fault Refusal :=
  event (modifyLink l Link.timeOut) s

/-- TRANSMIT_BYTE_SENT (R176). -/
def execTransmitByteSent (l : Fin 4) (s : State) : Host.Outcome State Fault Refusal :=
  event (byteSent l) s

/-- RESPONSE_PLACED (R175). -/
def execResponsePlaced (l : Fin 4) (s : State) : Host.Outcome State Fault Refusal :=
  event (placeWaiting l) s

/-- PENDING_FRAME_TAKEN (R173). -/
def execPendingFrameTaken (l : Fin 4) (s : State) : Host.Outcome State Fault Refusal :=
  event (takePending l) s

end Sys2Proof.Machine
end

