-- ==== Sys2Proof/Machine/ExecRehearsal.lean ====
section
/-! DEFINITION. The commands of a rehearsal (R163, R164, R167). -/

namespace Sys2Proof.Machine

/-- REHEARSE (R163, R164). -/
def execRehearse (l : Fin 4) (profile : Nat) (plan : Nat) (traced : Option Nat) (s : State) :
    Host.Outcome State Fault Refusal :=
  request l (.rehearse l profile plan traced) (rehearseRequest l profile plan traced) s

/-- READ_TRACE (R167). -/
def execReadTrace (l : Fin 4) (first : Option Nat) (s : State) : Host.Outcome State Fault Refusal :=
  request l (.readTrace l first) (fun t => query (readTraceReply first t) t) s

end Sys2Proof.Machine
end

