-- ==== Sys2Proof/Machine/ExecSales.lean ====
section
/-! DEFINITION. The commands of the Sales Unit (R111 to R121). -/

namespace Sys2Proof.Machine

/-- QUOTE (R111, R112). -/
def execQuote (l : Fin 4) (plan : Nat) (extras : List Nat) (slot : Option Nat) (lane : Option Nat) (s : State) :
    Host.Outcome State Fault Refusal :=
  request l (.quote l plan extras slot lane) (quoteRequest l plan extras slot lane) s

/-- CONFIRM (R114, R115). -/
def execConfirm (l : Fin 4) (ticket : Nat) (tender : Nat) (s : State) : Host.Outcome State Fault Refusal :=
  request l (.confirm l ticket tender) (confirmRequest l ticket tender) s

/-- CANCEL (R116). -/
def execCancel (l : Fin 4) (ticket : Nat) (s : State) : Host.Outcome State Fault Refusal :=
  request l (.cancel l ticket) (cancelRequest l ticket) s

/-- VOID (R117). -/
def execVoidTicket (l : Fin 4) (ticket : Nat) (s : State) : Host.Outcome State Fault Refusal :=
  request l (.voidTicket l ticket) (voidRequest l ticket) s

/-- REQUEUE (R118). -/
def execRequeue (l : Fin 4) (ticket : Nat) (s : State) : Host.Outcome State Fault Refusal :=
  request l (.requeue l ticket) (requeueRequest l ticket) s

/-- QUERY_TICKETS (R121). -/
def execQueryTickets (l : Fin 4) (ticket : Option Nat) (first : Nat) (s : State) : Host.Outcome State Fault Refusal :=
  request l (.queryTickets l ticket first) (fun t => query (queryTicketsReply ticket first t) t) s

end Sys2Proof.Machine
end

