-- ==== Sys2Proof/Machine/ExecSettings.lean ====
section
/-! DEFINITION. The commands that set the site and save it (R17, R29, R30, R177, R179, R186, R188, R192). -/

namespace Sys2Proof.Machine

/-- SET_GAUGE (R17). -/
def execSetGauge (l : Fin 4) (gauge : Nat) (first : Nat) (values : List Nat) (s : State) :
    Host.Outcome State Fault Refusal :=
  request l (.setGauge l gauge first values) (setGaugeRequest l gauge first values) s

/-- SET_SITE (R186). -/
def execSetSite (l : Fin 4) (site : Site) (s : State) : Host.Outcome State Fault Refusal :=
  request l (.setSite l site) (setSiteRequest l site) s

/-- SET_TEST_PROFILE (R29, R30). -/
def execSetTestProfile (l : Fin 4) (profile : Nat) (length : Nat) (first : Nat) (samples : List Sample) (s : State) :
    Host.Outcome State Fault Refusal :=
  request l (.setTestProfile l profile length first samples) (setTestProfileRequest l profile length first samples) s

/-- SET_ACCESS (R179). -/
def execSetAccess (l : Fin 4) (target : Nat) (entry : Access) (s : State) : Host.Outcome State Fault Refusal :=
  request l (.setAccess l target entry) (setAccessRequest l target entry) s

/-- SAVE_STORE (R188). -/
def execSaveStore (l : Fin 4) (s : State) : Host.Outcome State Fault Refusal :=
  request l (.saveStore l) (saveStoreRequest l) s

/-- QUERY_STATUS (R192). -/
def execQueryStatus (l : Fin 4) (part : Nat) (s : State) : Host.Outcome State Fault Refusal :=
  request l (.queryStatus l part) (fun t => query (queryStatusReply l part t) t) s

/-- SUBSCRIBE (R177). -/
def execSubscribe (l : Fin 4) (set : Byte) (s : State) : Host.Outcome State Fault Refusal :=
  request l (.subscribe l set) (subscribeRequest l set) s

end Sys2Proof.Machine
end

