-- ==== Sys2Proof/Machine/ExecSupply.lean ====
section
/-! DEFINITION. Power-on reset, line reset and the loss of supply (R190, R191). -/

namespace Sys2Proof.Machine

/-- POWER_ON_RESET (R191). -/
def execPowerOnReset (lines : LineLevels) (verified : Bool) (s : State) : Host.Outcome State Fault Refusal :=
  supplyEvent (powerOn lines verified) s

/-- LINE_RESET (R191). -/
def execLineReset (lines : LineLevels) (verified : Bool) (s : State) : Host.Outcome State Fault Refusal :=
  event (resetLine lines verified) s

/-- LOSS_OF_SUPPLY (R190). -/
def execLossOfSupply (verified : Bool) (s : State) : Host.Outcome State Fault Refusal :=
  event (loseSupply verified) s

end Sys2Proof.Machine
end

