-- ==== Sys2Proof/Machine/ExecTimers.lean ====
section
/-! DEFINITION. The expiries of the part's timers and the stages of a save (R10, R48, R83, R84, R113, R138, R188, R189, R196). -/

namespace Sys2Proof.Machine

/-- CONVEYOR_STALL (R10). -/
def execConveyorStall (s : State) : Host.Outcome State Fault Refusal :=
  event stallExpires s

/-- RETURN_TIMEOUT (R48). -/
def execReturnTimeout (arch : Fin 12) (s : State) : Host.Outcome State Fault Refusal :=
  event (returnExpires arch) s

/-- CALL_LAPSE (R83). -/
def execCallLapse (s : State) : Host.Outcome State Fault Refusal :=
  event callLapses s

/-- GRACE_EXPIRY (R84). -/
def execGraceExpiry (s : State) : Host.Outcome State Fault Refusal :=
  event graceExpires s

/-- HOLD_EXPIRY (R113). -/
def execHoldExpiry (ticket : Nat) (s : State) : Host.Outcome State Fault Refusal :=
  event (holdExpires ticket) s

/-- RESTART_WINDOW_EXPIRY (R138). -/
def execRestartWindowExpiry (s : State) : Host.Outcome State Fault Refusal :=
  event windowExpires s

/-- SAVE_STAGE_BEGIN (R188). -/
def execSaveStageBegin (s : State) : Host.Outcome State Fault Refusal :=
  event saveStageBegins s

/-- SAVE_REPORT (R189). -/
def execSaveReport (passed : Bool) (s : State) : Host.Outcome State Fault Refusal :=
  event (saveReported passed) s

/-- SAVE_TIMEOUT (R189). -/
def execSaveTimeout (verified : Bool) (s : State) : Host.Outcome State Fault Refusal :=
  event (saveExpires verified) s

/-- ROLLER_PULSE_END (R196). -/
def execRollerPulseEnd (s : State) : Host.Outcome State Fault Refusal :=
  event pulseEnds s

end Sys2Proof.Machine
end

