-- ==== Sys2Proof/Machine/ExecTunnel.lean ====
section
/-! DEFINITION. The commands of the Tunnel Supervisor and QUERY_TUNNEL (R97, R125 to R142). -/

namespace Sys2Proof.Machine

/-- HALT (R129). -/
def execHalt (l : Fin 4) (s : State) : Host.Outcome State Fault Refusal :=
  request l (.halt l) (haltRequest l) s

/-- PULL_CAR (R139). -/
def execPullCar (l : Fin 4) (car : Nat) (s : State) : Host.Outcome State Fault Refusal :=
  request l (.pullCar l car) (pullCarRequest l car) s

/-- OPEN_TUNNEL (R125). -/
def execOpenTunnel (l : Fin 4) (s : State) : Host.Outcome State Fault Refusal :=
  request l (.openTunnel l) (openTunnelRequest l) s

/-- CLOSE_TUNNEL (R126). -/
def execCloseTunnel (l : Fin 4) (s : State) : Host.Outcome State Fault Refusal :=
  request l (.closeTunnel l) (closeTunnelRequest l) s

/-- RESTART (R135, R136). -/
def execRestart (l : Fin 4) (s : State) : Host.Outcome State Fault Refusal :=
  request l (.restart l) (restartRequest l) s

/-- CLEAR_TUNNEL (R140). -/
def execClearTunnel (l : Fin 4) (s : State) : Host.Outcome State Fault Refusal :=
  request l (.clearTunnel l) (clearTunnelRequest l) s

/-- QUERY_TUNNEL (R97). -/
def execQueryTunnel (l : Fin 4) (car : Option Nat) (first : Option Nat) (s : State) : Host.Outcome State Fault Refusal :=
  request l (.queryTunnel l car first) (fun t => query (queryTunnelReply car first t) t) s

/-- QUERY_HALT (R142). -/
def execQueryHalt (l : Fin 4) (part : Nat) (s : State) : Host.Outcome State Fault Refusal :=
  request l (.queryHalt l part) (fun t => query (queryHaltReply part t) t) s

end Sys2Proof.Machine
end

