-- ==== Sys2Proof/Machine/Dispatch.lean ====
section
/-! DEFINITION. Every command's meaning, one arm per row of spec/opcode_table.json. -/

namespace Sys2Proof.Machine

def exec (i : Instr) (s : State) : Host.Outcome State Fault Refusal :=
  match i with
  | .quote l plan extras slot lane => Sys2Proof.Machine.execQuote l plan extras slot lane s
  | .confirm l ticket tender => Sys2Proof.Machine.execConfirm l ticket tender s
  | .cancel l ticket => Sys2Proof.Machine.execCancel l ticket s
  | .voidTicket l ticket => Sys2Proof.Machine.execVoidTicket l ticket s
  | .requeue l ticket => Sys2Proof.Machine.execRequeue l ticket s
  | .queryTickets l ticket first => Sys2Proof.Machine.execQueryTickets l ticket first s
  | .halt l => Sys2Proof.Machine.execHalt l s
  | .pullCar l car => Sys2Proof.Machine.execPullCar l car s
  | .openTunnel l => Sys2Proof.Machine.execOpenTunnel l s
  | .closeTunnel l => Sys2Proof.Machine.execCloseTunnel l s
  | .restart l => Sys2Proof.Machine.execRestart l s
  | .clearTunnel l => Sys2Proof.Machine.execClearTunnel l s
  | .queryTunnel l car first => Sys2Proof.Machine.execQueryTunnel l car first s
  | .queryHalt l part => Sys2Proof.Machine.execQueryHalt l part s
  | .setArchService l arch setting => Sys2Proof.Machine.execSetArchService l arch setting s
  | .clearJam l arch => Sys2Proof.Machine.execClearJam l arch s
  | .queryArch l arch first => Sys2Proof.Machine.execQueryArch l arch first s
  | .editPlan l plan record => Sys2Proof.Machine.execEditPlan l plan record s
  | .editExtra l extra record => Sys2Proof.Machine.execEditExtra l extra record s
  | .editDiscount l slot record => Sys2Proof.Machine.execEditDiscount l slot record s
  | .editService l service name => Sys2Proof.Machine.execEditService l service name s
  | .lockRange l first last => Sys2Proof.Machine.execLockRange l first last s
  | .queryCatalog l kind number => Sys2Proof.Machine.execQueryCatalog l kind number s
  | .setArch l arch record => Sys2Proof.Machine.execSetArch l arch record s
  | .setGauge l gauge first values => Sys2Proof.Machine.execSetGauge l gauge first values s
  | .setSite l site => Sys2Proof.Machine.execSetSite l site s
  | .setTestProfile l profile length first samples => Sys2Proof.Machine.execSetTestProfile l profile length first samples s
  | .setAccess l target entry => Sys2Proof.Machine.execSetAccess l target entry s
  | .saveStore l => Sys2Proof.Machine.execSaveStore l s
  | .queryStatus l part => Sys2Proof.Machine.execQueryStatus l part s
  | .closeout l => Sys2Proof.Machine.execCloseout l s
  | .readJournal l bank first => Sys2Proof.Machine.execReadJournal l bank first s
  | .releaseBank l bank => Sys2Proof.Machine.execReleaseBank l bank s
  | .rehearse l profile plan traced => Sys2Proof.Machine.execRehearse l profile plan traced s
  | .readTrace l first => Sys2Proof.Machine.execReadTrace l first s
  | .subscribe l set => Sys2Proof.Machine.execSubscribe l set s
  | .unknownKindRequest l kind body => Sys2Proof.Machine.execUnknownKindRequest l kind body s
  | .receiveByte l byte => Sys2Proof.Machine.execReceiveByte l byte s
  | .interByteTimeout l => Sys2Proof.Machine.execInterByteTimeout l s
  | .transmitByteSent l => Sys2Proof.Machine.execTransmitByteSent l s
  | .responsePlaced l => Sys2Proof.Machine.execResponsePlaced l s
  | .pendingFrameTaken l => Sys2Proof.Machine.execPendingFrameTaken l s
  | .encoderLineChange phase gauges order => Sys2Proof.Machine.execEncoderLineChange phase gauges order s
  | .conveyorStall => Sys2Proof.Machine.execConveyorStall s
  | .loadCodeReceived arch code => Sys2Proof.Machine.execLoadCodeReceived arch code s
  | .homeSwitchChange arch closed => Sys2Proof.Machine.execHomeSwitchChange arch closed s
  | .returnTimeout arch => Sys2Proof.Machine.execReturnTimeout arch s
  | .entryTreadleClosing => Sys2Proof.Machine.execEntryTreadleClosing s
  | .treadleOpening treadle => Sys2Proof.Machine.execTreadleOpening treadle s
  | .exitTreadleClosing => Sys2Proof.Machine.execExitTreadleClosing s
  | .presenceLoopChange lane asserted => Sys2Proof.Machine.execPresenceLoopChange lane asserted s
  | .callLapse => Sys2Proof.Machine.execCallLapse s
  | .graceExpiry => Sys2Proof.Machine.execGraceExpiry s
  | .holdExpiry ticket => Sys2Proof.Machine.execHoldExpiry ticket s
  | .estopLineChange asserted => Sys2Proof.Machine.execEstopLineChange asserted s
  | .restartWindowExpiry => Sys2Proof.Machine.execRestartWindowExpiry s
  | .saveStageBegin => Sys2Proof.Machine.execSaveStageBegin s
  | .saveReport passed => Sys2Proof.Machine.execSaveReport passed s
  | .saveTimeout verified => Sys2Proof.Machine.execSaveTimeout verified s
  | .rollerPulseEnd => Sys2Proof.Machine.execRollerPulseEnd s
  | .powerOnReset lines verified => Sys2Proof.Machine.execPowerOnReset lines verified s
  | .lineReset lines verified => Sys2Proof.Machine.execLineReset lines verified s
  | .lossOfSupply verified => Sys2Proof.Machine.execLossOfSupply verified s

end Sys2Proof.Machine
end

