-- ==== Sys2Proof/Safety.lean ====
section
/-! DEFINITION. What the claims about a run are stated in: when an event finds the part settled, what a command leaves alone, and
what a safe state is. -/

namespace Sys2Proof.Machine

/-! ## Between commands -/

/-- The part has supply and the last event has been handled whole: no cause and no notice is left over. -/
abbrev Settled (s : State) : Prop := s.powered = true ∧ s.raised = [] ∧ s.outbox = []

/-- A link on which a frame is taken at once: no request in progress and no frame pending (R173). -/
abbrev LinkFree (l : Fin 4) (s : State) : Prop := (linkAt l s).waiting = none ∧ (linkAt l s).pendingFrame = none

/-- A settled part whose link takes the next frame at once. -/
abbrev Ready (l : Fin 4) (s : State) : Prop := Settled s ∧ LinkFree l s

/-- What responses and notices leave alone on every link: the receiver, its timer, the pending frame and the two counts. -/
def ReceiversKept (before after : Vector Link 4) : Prop :=
  ∀ l : Fin 4,
    (after.get l).receiver = (before.get l).receiver ∧ (after.get l).timer = (before.get l).timer ∧
    (after.get l).pendingFrame = (before.get l).pendingFrame ∧ (after.get l).errors = (before.get l).errors ∧
    (after.get l).timeouts = (before.get l).timeouts

/-- A request is answered: its effect is `after`, then its response is offered to its link, then the notices that stand in the
outbox of `after` are offered to the links they are addressed to (R175, R176). Nothing else of the part changes. -/
def Answered (l : Fin 4) (kind : Byte) (before : State) (o : Host.Outcome State Fault Refusal) (status : Status)
    (body : List Byte) (after : State) : Prop :=
  o = .next { flush (offerResponse l { kind := kind, status := status, body := body } after) with pending := before.pending }

/-- A request is refused: its response carries the status alone and the part stays as it was (R174). -/
def Refused (l : Fin 4) (kind : Byte) (before : State) (o : Host.Outcome State Fault Refusal) (status : Status) : Prop :=
  Answered l kind before o status [] before

/-- An event ends in `after`, whose notices are then offered (R176). -/
def EndsIn (before : State) (o : Host.Outcome State Fault Refusal) (after : State) : Prop :=
  o = .next { flush after with pending := before.pending }

/-! ## Safe states -/

/-- The run command is RUN exactly when the tunnel state, the table and the call ask for it (R7), and the stall timer is idle
while the run command is STOP (R10). -/
abbrev RunFollows (s : State) : Prop :=
  (s.tracker.run = true ↔ (s.supervisor.tunnel = .opened ∨ s.supervisor.tunnel = .closing) ∧
      (s.entry.table ≠ [] ∨ s.entry.call.isSome = true) ∨ s.supervisor.tunnel = .rehearsal) ∧
    (s.tracker.run = false → s.tracker.stall = none)

/-- No transmit queue holds more than 256 bytes (R175). -/
abbrev QueuesFit (s : State) : Prop := ∀ l : Fin 4, (linkAt l s).queue.length ≤ transmitCapacity

/-- One bank is ACTIVE and the other is not (R145). -/
abbrev OneActive (s : State) : Prop :=
  (s.journal.bankA.state = .active ∧ s.journal.bankB.state ≠ .active) ∨
    (s.journal.bankB.state = .active ∧ s.journal.bankA.state ≠ .active)

/-- A call is outstanding, and a ticket remembered, only in OPEN; a lane signal shows GO exactly in the called lane (R82, R84). -/
abbrev CallLaw (s : State) : Prop :=
  (s.entry.call.isSome → s.supervisor.tunnel = .opened) ∧ (s.entry.remembered.isSome → s.supervisor.tunnel = .opened) ∧
    ∀ l : Fin 3, s.entry.signals.get l = (s.entry.call.any fun k => k.lane == l)

/-- A halt record exists exactly in HALTED and RESTARTING (R130), a restart link exactly in RESTARTING (R135, R138), and a halt
resumes to OPEN, CLOSING or CLOSED (R130). -/
abbrev HaltLaw (s : State) : Prop :=
  (s.supervisor.halt.isSome ↔ s.supervisor.tunnel = .halted ∨ s.supervisor.tunnel = .restarting) ∧
    (s.supervisor.restart.isSome ↔ s.supervisor.tunnel = .restarting) ∧
    ∀ r ∈ s.supervisor.halt, r.resume = .opened ∨ r.resume = .closing ∨ r.resume = .closed

/-- The tunnel holds no car in CLOSED, in a halt that resumes to CLOSED and without supply; the phantom car stands alone in the
table, and only in REHEARSAL (R94, R131, R164, R190). -/
abbrev EmptyLaw (s : State) : Prop :=
  (s.supervisor.tunnel = .closed → s.entry.table = []) ∧
    ((s.supervisor.tunnel = .halted ∨ s.supervisor.tunnel = .restarting) → resumeOf s = .closed → s.entry.table = []) ∧
    (s.supervisor.tunnel = .rehearsal → s.entry.table.length ≤ 1 ∧ ∀ c ∈ s.entry.table, c.phantom = true) ∧
    (s.supervisor.tunnel ≠ .rehearsal → ∀ c ∈ s.entry.table, c.phantom = false) ∧
    (s.powered = false → s.entry.table = [])

/-- The car table holds at most 12 cars, no two of them sharing a number (R75). -/
abbrev TableFits (s : State) : Prop := s.entry.table.length ≤ maxCars ∧ (carNumbers s).Nodup

/-- The ticket queue holds at most 16 tickets (R109), and no number is held by two tickets, by two cars or by a ticket and a car
(R108). -/
abbrev TicketsFit (s : State) : Prop := s.sales.tickets.length ≤ maxTickets ∧ (usedTicketNumbers s).Nodup

/-- A bank's law: admitted plus voided is written plus overflowed plus the cars carrying it, modulo 2^32 (R152). -/
abbrev BankLaw (b : BankId) (s : State) : Prop :=
  ((bankAt b s).admitted + (bankAt b s).voided) % modulus32
    = ((bankAt b s).written + (bankAt b s).overflow + carsOn b s) % modulus32

/-- Every bank that is not EMPTY keeps its law (R152), no car carries a SEALED or an EMPTY bank (R145), and the phantom car
carries none (R164). -/
abbrev JournalLaw (s : State) : Prop :=
  OneActive s ∧ (∀ b : BankId, (bankAt b s).state ≠ .empty → BankLaw b s) ∧
    (∀ b : BankId, (bankAt b s).state = .sealed ∨ (bankAt b s).state = .empty → carsOn b s = 0) ∧
    ∀ c ∈ s.entry.table, c.phantom = true → c.bank = none

/-- Every following arch's minimum is at most its maximum (R33). -/
abbrev RangesHold (settings : Settings) : Prop :=
  ∀ a : Fin 12, isFollowing (settings.layouts.get a).kind = true →
    (settings.layouts.get a).minimum ≤ (settings.layouts.get a).maximum

/-- Every arch's command lies within its arch's range, a spray arch's at its maximum, and only a following arch is FOLLOWING (R36).
The ranges of the settings in force, of the image and of a snapshot being saved all hold. -/
abbrev CommandLaw (s : State) : Prop :=
  RangesHold s.settings ∧ (∀ image ∈ s.store.image, RangesHold image.settings) ∧ (∀ k ∈ s.store.save, RangesHold k.snapshot) ∧
    ∀ a : Fin 12, ((archAt a s).phase = .following → isFollowing (layoutAt a s).kind = true) ∧
      (archAt a s).command ≤ (layoutAt a s).maximum ∧
      (if isFollowing (layoutAt a s).kind then (layoutAt a s).minimum ≤ (archAt a s).command
       else (archAt a s).command = (layoutAt a s).maximum)

/-- A command in hand is done and the part is settled after it. -/
abbrev LeavesSettled (s : State) : Prop := s.raised = [] ∧ s.outbox = []

end Sys2Proof.Machine
end

