-- ==== Sys2Proof/Certificates/Slice0/Obligations.lean ====
section
/-! DEFINITION. The statements for the provers. -/

open Sys2Proof Sys2Proof.Machine

/-! ## The queue of commands, and every command -/

/-- A step takes the command at the front of the queue and is that command's effect on the part with the queue's rest. -/
def Obligations.StepRunsFrontCommand : Prop :=
  ∀ (i : Instr) (rest : List Instr) (s : State), step { s with pending := i :: rest } = exec i { s with pending := rest }

/-- The model's choice (log entries 5 and 9): on an empty queue a part with supply lets every running timer lose one unit of 10 ms, down
to 0, and changes nothing else; a part without supply does nothing. -/
def Obligations.IdleStepPassesOneTimerUnit : Prop :=
  ∀ s : State, s.pending = [] →
    (s.powered = false → step s = .next s) ∧
    (s.powered = true → ∃ t, step s = .next t ∧
      t.tracker = { s.tracker with stall := s.tracker.stall.map (· - 1) } ∧
      (∀ a, archAt a t = { archAt a s with timer := (archAt a s).timer.map (· - 1) }) ∧
      t.entry = { s.entry with
        call := s.entry.call.map fun k => { k with timer := k.timer - 1 }
        remembered := s.entry.remembered.map fun r => { r with timer := r.timer - 1 }
        roller := s.entry.roller.map (· - 1) } ∧
      t.sales = { s.sales with tickets := s.sales.tickets.map fun k => { k with hold := k.hold.map (· - 1) } } ∧
      t.supervisor = { s.supervisor with restart := s.supervisor.restart.map fun a => { a with timer := a.timer - 1 } } ∧
      (∀ l, linkAt l t = { linkAt l s with timer := (linkAt l s).timer.map (· - 1) }) ∧
      t.store = { s.store with save := s.store.save.map fun k => { k with timer := k.timer - 1 } } ∧
      (t.station, t.trace, t.journal, t.settings, t.locks, t.strap, t.rehearsal, t.powered, t.raised, t.outbox, t.pending)
        = (s.station, s.trace, s.journal, s.settings, s.locks, s.strap, s.rehearsal, s.powered, s.raised, s.outbox, s.pending))

/-- Every command answers a next state and leaves the queue alone. A part with supply has then taken every cause and offered every
notice of the command (R63, R176); a part without supply is left as it was by every command but a power-on reset (R190, R191; the latter
is the model's choice, log entry 9). -/
def Obligations.EveryCommandCompletes : Prop :=
  ∀ (i : Instr) (s : State), ∃ t, exec i s = .next t ∧ t.pending = s.pending ∧
    (s.powered = true → LeavesSettled t) ∧
    (s.powered = false → (∀ lines verified, i ≠ .powerOnReset lines verified) → t = s)

/-- Every well-formed request is written as a frame that is read back as the same request of the same link, with every value of its
body; a frame whose kind is no request's is answered UNKNOWN (R174, R193 to R195). -/
def Obligations.DecodedRequestIsTheOneEncoded : Prop :=
  ∀ (i : Instr) (l : Fin 4) (f : Frame), i.wellFormed = true → requestLink i = some l → encodeRequest i = some f →
    (if isRequestKind f.kind then decodeRequest l f = .ok i else decodeRequest l f = .error .unknown) ∧
    (isRequestKind f.kind = false ↔ ∃ kind body, i = .unknownKindRequest l kind body)

/-! ## Invariants of a run -/

/-- The part right after reset meets every invariant that the statements below say a step keeps. -/
def Obligations.ResetMeetsEveryInvariant : Prop :=
  Settled State.reset ∧ RunFollows State.reset ∧ QueuesFit State.reset ∧ HaltLaw State.reset ∧ CallLaw State.reset ∧
    EmptyLaw State.reset ∧ TableFits State.reset ∧ TicketsFit State.reset ∧ JournalLaw State.reset ∧ CommandLaw State.reset

/-- A step keeps the halt law: a halt record exists exactly in HALTED and RESTARTING, a restart link exactly in RESTARTING (R130). -/
def Obligations.HaltRecordExistsExactlyUnderHalt : Prop :=
  ∀ s t : State, HaltLaw s → step s = .next t → HaltLaw t

/-- A step keeps the run command at what R7 asks for, and the stall timer idle while the run command is STOP. -/
def Obligations.RunCommandFollowsTunnelTableAndCall : Prop :=
  ∀ s t : State, HaltLaw s → RunFollows s → step s = .next t → RunFollows t

/-- A step keeps every transmit queue within its 256 bytes. -/
def Obligations.TransmitQueuesNeverOverflow : Prop :=
  ∀ s t : State, QueuesFit s → step s = .next t → QueuesFit t

/-- A step keeps the call law: a call stands and a ticket is remembered only in OPEN, and GO shows in the called lane alone. -/
def Obligations.GoShowsOnlyForTheCallInOpen : Prop :=
  ∀ s t : State, HaltLaw s → CallLaw s → step s = .next t → CallLaw t

/-- A step keeps the tunnel empty of cars in CLOSED, and the phantom car alone and in REHEARSAL only. -/
def Obligations.ClosedTunnelHoldsNoCar : Prop :=
  ∀ s t : State, HaltLaw s → EmptyLaw s → step s = .next t → EmptyLaw t

/-- A step keeps at most 12 cars in the table, no two sharing a number. -/
def Obligations.CarTableFitsWithDistinctNumbers : Prop :=
  ∀ s t : State, EmptyLaw s → TableFits s → step s = .next t → TableFits t

/-- A step keeps at most 16 tickets in the queue, and no ticket number is ever shared by tickets or cars. -/
def Obligations.TicketNumbersAreNeverShared : Prop :=
  ∀ s t : State, TableFits s → TicketsFit s → step s = .next t → TicketsFit t

/-- A step keeps the journal's books: one bank ACTIVE, and admitted plus voided equal to written plus overflowed plus cars under way,
modulo 2^32, for every bank that is not EMPTY. -/
def Obligations.JournalBooksBalance : Prop :=
  ∀ s t : State, EmptyLaw s → TableFits s → JournalLaw s → step s = .next t → JournalLaw t

/-- A step keeps every arch's command within its range, and a spray arch's at its maximum. -/
def Obligations.ArchCommandsStayInRange : Prop :=
  ∀ s t : State, CommandLaw s → step s = .next t → CommandLaw t

/-! ## The Sales Unit -/

/-- A QUOTE that passes its tests builds a HELD ticket at the price of R107 with its snapshot and starts the hold. -/
def Obligations.QuoteBuildsAHeldTicket : Prop :=
  ∀ (l : Fin 4) (plan : Nat) (extras : List Nat) (slot lane : Option Nat) (n : Fin 3) (s : State), Ready l s →
    plan < 24 → extras.length ≤ 4 → extras.Nodup →
    (∀ e ∈ extras, e < 8 ∧ inSet (planRecord plan s).allowed e = true ∧ lookup s.sales.extraAvailable e false = true) →
    (∀ k ∈ slot, k < 8 ∧ (discountSlot k s).kind ≠ .none ∧ inSet (discountSlot k s).regions (planRecord plan s).region = true) →
    maySell l (planRecord plan s).region s = true → lookup s.sales.planAvailable plan false = true →
    (s.supervisor.tunnel = .opened ∨ s.supervisor.tunnel = .halted ∨ s.supervisor.tunnel = .restarting) →
    ((accessAt l s).lane = some (laneNumber n) ∧ lane = none ∨ (accessAt l s).lane = none ∧ lane = some (laneNumber n)) →
    s.sales.tickets.length < 16 → laneCount n s < s.settings.site.stackLimits.get n →
    let price := (planRecord plan s).price
    let subtotal := price + (extras.map fun e => (extraRecord e s).price).sum
    let discount := match slot with
      | none => 0
      | some k => match (discountSlot k s).kind with
        | .none => 0
        | .amount => (discountSlot k s).value
        | .percent => (subtotal * (discountSlot k s).value + 50) / 100
    let number := nextTicketNumber s
    let merged (list : List ServicePress) (x : ServicePress) : List ServicePress :=
      if ∃ y ∈ list, y.service = x.service then
        list.map fun y => if y.service = x.service then { y with press := max y.press x.press } else y
      else list ++ [x]
    Answered l 0x10 s (exec (.quote l plan extras slot lane) s) .ok
      (put16 number ++ put8 (laneNumber n) ++ put32 subtotal ++ put32 discount ++ put32 (subtotal - discount)
        ++ put16 s.settings.site.quoteHold)
      { s with
        sales.tickets := s.sales.tickets ++
          [{ number := number, state := .held, lane := n, link := l, plan := plan, extras := extras, slot := slot,
             total := subtotal - discount, tender := none, maxClass := (planRecord plan s).maxClass,
             services := (extras.flatMap fun e => (extraRecord e s).services).foldl merged (planRecord plan s).services,
             hold := some (s.settings.site.quoteHold * 100), sequence := none, lapses := 0 }]
        sales.ticketCounter := stepOn 9999 number
        sales.expired := mapAll (fun l => l.filter (· != number)) s.sales.expired }

/-- The first test of R111 that a QUOTE fails gives its answer, and a refused QUOTE changes nothing. -/
def Obligations.QuoteRefusedByFirstFailedTest : Prop :=
  ∀ (l : Fin 4) (plan : Nat) (extras : List Nat) (slot lane : Option Nat) (s : State), Ready l s →
    let unknown := 24 ≤ plan ∨ (∃ e ∈ extras, 8 ≤ e) ∨ ∃ k ∈ slot, 8 ≤ k ∨ (discountSlot k s).kind = .none
    let denied := maySell l (planRecord plan s).region s = false
    let state := s.supervisor.tunnel = .closed ∨ s.supervisor.tunnel = .closing ∨ s.supervisor.tunnel = .rehearsal
    let noLane := match (accessAt l s).lane, lane with
      | some n, none => laneOf n = none
      | some _, some _ => True
      | none, none => True
      | none, some n => n < 1 ∨ 3 < n
    let invalid := noLane ∨ 4 < extras.length ∨ ¬ extras.Nodup ∨ (∃ e ∈ extras, inSet (planRecord plan s).allowed e = false) ∨
      ∃ k ∈ slot, inSet (discountSlot k s).regions (planRecord plan s).region = false
    let withdrawn := lookup s.sales.planAvailable plan false = false ∨ ∃ e ∈ extras, lookup s.sales.extraAvailable e false = false
    let queueFull := 16 ≤ s.sales.tickets.length
    let laneFull := ∃ n ∈ saleLane l lane s, s.settings.site.stackLimits.get n ≤ laneCount n s
    let answer (st : Status) := Refused l 0x10 s (exec (.quote l plan extras slot lane) s) st
    (unknown → answer .unknown) ∧
    (¬ unknown → denied → answer .denied) ∧
    (¬ unknown → ¬ denied → state → answer .state) ∧
    (¬ unknown → ¬ denied → ¬ state → invalid → answer .invalid) ∧
    (¬ unknown → ¬ denied → ¬ state → ¬ invalid → withdrawn → answer .unavailable) ∧
    (¬ unknown → ¬ denied → ¬ state → ¬ invalid → ¬ withdrawn → queueFull → answer .queueFull) ∧
    (¬ unknown → ¬ denied → ¬ state → ¬ invalid → ¬ withdrawn → ¬ queueFull → laneFull → answer .laneFull)

/-- A CONFIRM of a HELD ticket by its own link makes it PAID at the tail of its lane order with the next sequence, and the arbiter
evaluates (R115). CANCEL and CONFIRM are tested by ownership (R114, R116): the first test failed gives the answer and nothing changes; a
CANCEL that passes removes the ticket from the queue, its lane order and the stalled tickets, and from nothing else. -/
def Obligations.ConfirmAndCancelByOwnership : Prop :=
  (∀ (l : Fin 4) (n code : Nat) (tender : Tender) (k : Ticket) (s : State), Ready l s →
    findTicket n s = some k → k.link = l → k.state = .held →
    (code = 1 ∧ tender = .cash ∨ code = 2 ∧ tender = .card ∨ code = 3 ∧ tender = .account) →
    s.sales.sequenceCounter < 4294967295 →
    let sequence := s.sales.sequenceCounter + 1
    Answered l 0x11 s (exec (.confirm l n code) s) .ok (put16 n ++ put32 sequence)
      (arbitrate { s with
        sales.tickets := s.sales.tickets.map fun u => if u.number = n then
            { u with state := .paid, tender := some tender, hold := none, sequence := some sequence, lapses := k.lapses }
          else u
        sales.sequenceCounter := sequence
        sales.laneOrders := modifyAt s.sales.laneOrders k.lane (· ++ [n]) })) ∧
  ∀ (l : Fin 4) (n code : Nat) (s : State), Ready l s →
    let both (st : Status) :=
      Refused l 0x11 s (exec (.confirm l n code) s) st ∧ Refused l 0x12 s (exec (.cancel l n) s) st
    (findTicket n s = none → n ∈ s.sales.expired.get l → both .expired) ∧
    (findTicket n s = none → n ∉ s.sales.expired.get l → both .unknown) ∧
    ∀ k, findTicket n s = some k →
      (k.link ≠ l → both .notOwner) ∧
      (k.link = l → k.state ≠ .held → both .state) ∧
      (k.link = l → k.state = .held → tenderOf code = none → Refused l 0x11 s (exec (.confirm l n code) s) .invalid) ∧
      (k.link = l → k.state = .held → tenderOf code ≠ none → 4294967295 ≤ s.sales.sequenceCounter →
        Refused l 0x11 s (exec (.confirm l n code) s) .busy) ∧
      (k.link = l → k.state = .held → Answered l 0x12 s (exec (.cancel l n) s) .ok []
        { s with
          sales.tickets := s.sales.tickets.filter fun u => u.number != n
          sales.laneOrders := mapAll (fun o => o.filter (· != n)) s.sales.laneOrders
          sales.stalled := s.sales.stalled.filter (· != n) })

/-- VOID (R117): OPERATE, a ticket of the queue, not CALLED; a HELD ticket leaves without a record, a PAID or STALLED one is submitted
VOIDED to the ACTIVE bank; the notice VOIDED goes to the quoting link and a remembered ticket is forgotten. REQUEUE (R118): OPERATE, a
STALLED ticket, room in its lane, a sequence left; the ticket is then PAID at the tail of its lane order with a new sequence and no
lapses, forgotten if remembered, and the arbiter evaluates. The code 5 of a ticket that is gone is the model's choice (log entry 20). -/
def Obligations.VoidAndRequeueByTicketState : Prop :=
  (∀ (l : Fin 4) (n : Nat) (s : State), Ready l s →
    let refused (st : Status) := Refused l 0x13 s (exec (.voidTicket l n) s) st
    (permitted l .operate s = false → refused .denied) ∧
    (permitted l .operate s = true →
      (findTicket n s = none → refused .unknown) ∧
      ∀ k, findTicket n s = some k →
        let gone (u : State) := Answered l 0x13 s (exec (.voidTicket l n) s) .ok []
          (releaseRemembered n (ticketNotice .voided k 5 [] u))
        (k.state = .called → refused .state) ∧
        (k.state = .held → gone (dropTicket n s)) ∧
        (k.state = .paid ∨ k.state = .stalled → gone (submitTicket k .voided (dropTicket n s))))) ∧
  ∀ (l : Fin 4) (n : Nat) (s : State), Ready l s →
    let turned (st : Status) := Refused l 0x14 s (exec (.requeue l n) s) st
    (permitted l .operate s = false → turned .denied) ∧
    (permitted l .operate s = true →
      (findTicket n s = none → turned .unknown) ∧
      ∀ k, findTicket n s = some k →
        (k.state ≠ .stalled → turned .state) ∧
        (k.state = .stalled →
          (s.settings.site.stackLimits.get k.lane ≤ laneCount k.lane s → turned .laneFull) ∧
          (laneCount k.lane s < s.settings.site.stackLimits.get k.lane →
            (4294967295 ≤ s.sales.sequenceCounter → turned .busy) ∧
            (s.sales.sequenceCounter < 4294967295 →
              Answered l 0x14 s (exec (.requeue l n) s) .ok []
                (arbitrate (forgetTicket n (ticketNotice .requeued { k with lapses := 0 } 2 []
                  { s with
                    sales.tickets := s.sales.tickets.map fun u => if u.number = n then
                        { u with state := .paid, tender := k.tender, hold := none,
                                 sequence := some (s.sales.sequenceCounter + 1), lapses := 0 }
                      else u
                    sales.sequenceCounter := s.sales.sequenceCounter + 1
                    sales.laneOrders := modifyAt s.sales.laneOrders k.lane (· ++ [n])
                    sales.stalled := s.sales.stalled.filter (· != n) })))))))

/-- The queries and READ_TRACE need no permission, are answered in every state of the part, and change nothing but their link's transmit
side; a ticket, a car, a section, an arch, a catalog item kind or a number outside its kind's range (services 0 to 15, plans 0 to 23,
extras and discount slots 0 to 7) that does not exist is answered UNKNOWN. That QUERY_TUNNEL without a car and QUERY_TICKETS with a ticket
ignore a first index is the model's choice (log entry 52), and the bodies are laid out by its reading (log entries 21, 55 and 56). -/
def Obligations.QueriesChangeNothing : Prop :=
  ∀ (l : Fin 4) (s : State), Ready l s →
    (∀ ticket first, Answered l 0x15 s (exec (.queryTickets l ticket first) s)
      (queryTicketsReply ticket first s).status (queryTicketsReply ticket first s).body s) ∧
    (∀ car first, Answered l 0x26 s (exec (.queryTunnel l car first) s)
      (queryTunnelReply car first s).status (queryTunnelReply car first s).body s) ∧
    (∀ part, Answered l 0x27 s (exec (.queryHalt l part) s) (queryHaltReply part s).status (queryHaltReply part s).body s) ∧
    (∀ arch first, Answered l 0x2A s (exec (.queryArch l arch first) s)
      (queryArchReply arch first s).status (queryArchReply arch first s).body s) ∧
    (∀ kind n, Answered l 0x35 s (exec (.queryCatalog l kind n) s)
      (queryCatalogReply kind n s).status (queryCatalogReply kind n s).body s) ∧
    (∀ part, Answered l 0x3E s (exec (.queryStatus l part) s)
      (queryStatusReply l part s).status (queryStatusReply l part s).body s) ∧
    (∀ first, Answered l 0x49 s (exec (.readTrace l first) s) (readTraceReply first s).status (readTraceReply first s).body s) ∧
    (∀ n first, findTicket n s = none → Refused l 0x15 s (exec (.queryTickets l (some n) first) s) .unknown) ∧
    (∀ n first, findCar n s = none → Refused l 0x26 s (exec (.queryTunnel l (some n) first) s) .unknown) ∧
    (∀ part, part ≠ 1 → part ≠ 2 → Refused l 0x27 s (exec (.queryHalt l part) s) .unknown) ∧
    (∀ arch first, 12 ≤ arch → Refused l 0x2A s (exec (.queryArch l arch first) s) .unknown) ∧
    (∀ kind n, (kind = 0 ∨ 4 < kind ∨ (kind = 1 ∧ 16 ≤ n) ∨ (kind = 2 ∧ 24 ≤ n) ∨ ((kind = 3 ∨ kind = 4) ∧ 8 ≤ n)) →
      Refused l 0x35 s (exec (.queryCatalog l kind n) s) .unknown) ∧
    (∀ part, (part = 0 ∨ 5 < part) → Refused l 0x3E s (exec (.queryStatus l part) s) .unknown)

/-! ## The ways a ticket leaves its call or its hold -/

/-- Call lapses, graces and holds run out (R83, R84, R113): the call's ticket returns to its lane head or, at its third lapse, stalls,
and is remembered for 500 units; a remembered ticket is forgotten; a HELD ticket leaves without a record. An expiry that finds its timer
idle or with units left changes nothing (log entry 6). What a stall notice carries and the code 5 of a ticket that is gone are the
model's choice (log entries 16 and 20). -/
def Obligations.LapsesGracesAndHoldsRunOut : Prop :=
  ∀ s : State, Settled s →
    (∀ k u, s.entry.call = some k → k.timer = 0 → findTicket k.ticket s = some u →
      let after (x : State) := evaluateRun { x with
        entry.call := none
        entry.signals := s.entry.signals.set k.lane.val false k.lane.isLt
        entry.remembered := some { ticket := k.ticket, timer := 500 } }
      let left (st : TicketState) : State := { s with sales.tickets := s.sales.tickets.map fun v =>
        if v.number = k.ticket then { v with state := st, lapses := u.lapses + 1 } else v }
      (u.lapses < 2 → EndsIn s (exec .callLapse s)
        (after (ticketNotice .lapsed { u with lapses := u.lapses + 1 } 2 [] (left .paid)))) ∧
      (2 ≤ u.lapses → EndsIn s (exec .callLapse s)
        (after (ticketNotice .stalled { u with lapses := u.lapses + 1 } 4 [] (stallNotice { u with lapses := u.lapses + 1 }
          { left .stalled with
            sales.laneOrders := modifyAt s.sales.laneOrders u.lane fun o => o.filter (· != k.ticket)
            sales.stalled := s.sales.stalled ++ [k.ticket] }))))) ∧
    ((∀ k ∈ s.entry.call, k.timer ≠ 0) → EndsIn s (exec .callLapse s) s) ∧
    (∀ r, s.entry.remembered = some r → r.timer = 0 →
      EndsIn s (exec .graceExpiry s) (arbitrate { s with entry.remembered := none })) ∧
    ((∀ r ∈ s.entry.remembered, r.timer ≠ 0) → EndsIn s (exec .graceExpiry s) s) ∧
    (∀ n, (∀ u ∈ findTicket n s, u.state ≠ .held ∨ u.hold ≠ some 0) → EndsIn s (exec (.holdExpiry n) s) s) ∧
    (∀ n u, findTicket n s = some u → u.state = .held → u.hold = some 0 → EndsIn s (exec (.holdExpiry n) s)
      (ticketNotice .expired u 5 [] { dropTicket n s with
        sales.expired := modifyAt s.sales.expired u.link fun e =>
          if e.length < 4 then e ++ [n] else (e ++ [n]).drop 1 }))

/-! ## The entry arbiter and the calls -/

/-- The arbiter calls the eligible lane head of the earliest sequence when the tunnel is OPEN, no call stands, none is remembered, the
table has room and the gap is satisfied; if any of these fails it does nothing (R80). A call makes its ticket CALLED, shows GO in its
lane, starts the call timer and sends the notice CALLED (R82). -/
def Obligations.ArbiterCallsTheEarliestEligibleHead : Prop :=
  ∀ s : State,
    let mayCall := s.supervisor.tunnel = .opened ∧ s.entry.call = none ∧ s.entry.remembered = none ∧
      s.entry.table.length < 12 ∧
      (∀ c, newestCar s = some c → c.rearExtent + s.settings.site.gap ≤ signedDiff s.tracker.pos c.anchor)
    let eligible (l : Fin 3) (u : Ticket) := s.entry.loops.get l = true ∧
      ∃ n rest, s.sales.laneOrders.get l = n :: rest ∧ findTicket n s = some u
    (¬ mayCall → arbitrate s = s) ∧
    ((∀ l u, ¬ eligible l u) → arbitrate s = s) ∧
    (mayCall → ∀ l u, eligible l u → (∀ m v, eligible m v → m ≠ l → u.sequence.getD 0 < v.sequence.getD 0) →
      arbitrate s = evaluateRun (ticketNotice .called u 3 []
        { s with
          sales.tickets := s.sales.tickets.map fun v => if v.number = u.number then { v with state := .called } else v
          entry.call := some { ticket := u.number, lane := u.lane, timer := s.settings.site.callTimeout * 100 }
          entry.signals := s.entry.signals.set u.lane.val true u.lane.isLt }))

/-- The run command is re-evaluated: RUN starts the stall timer at its full time, STOP makes it idle, and an unchanged command touches
nothing (R8, R7). -/
def Obligations.RunCommandReevaluation : Prop :=
  ∀ s : State,
    let wanted := (s.supervisor.tunnel = .opened ∨ s.supervisor.tunnel = .closing) ∧
        (s.entry.table ≠ [] ∨ s.entry.call.isSome) ∨ s.supervisor.tunnel = .rehearsal
    (wanted → s.tracker.run = true → evaluateRun s = s) ∧
    (wanted → s.tracker.run = false →
      evaluateRun s = { s with tracker.run := true, tracker.stall := some (s.settings.site.stallTime * 100) }) ∧
    (¬ wanted → s.tracker.run = false → evaluateRun s = s) ∧
    (¬ wanted → s.tracker.run = true → evaluateRun s = { s with tracker.run := false, tracker.stall := none })

/-! ## Halts -/

/-- A first cause makes the halt record and its notice: the next halt number, the cause with its position, the resume state, nothing
counted, the state HALTED (R130). With that the conveyor stops, no arch goes on working, an engaged car is SKIPPED there, every car has
a first halt, the call is cancelled and every lane signal shows STOP (R131, R52, R85). The halt notice's sub-kind 1 and the order of its
values are the model's reading (log entries 13 and 15). -/
def Obligations.FirstCauseHaltsTheTunnel : Prop :=
  ∀ (c : Cause) (s : State), s.supervisor.tunnel ≠ .halted → s.supervisor.tunnel ≠ .restarting →
    let t := takeCause c s
    let number := if 65535 ≤ s.supervisor.haltCounter then 1 else s.supervisor.haltCounter + 1
    let resume : TunnelState := if s.supervisor.tunnel = .opened then .opened
      else if s.supervisor.tunnel = .closing then .closing else .closed
    t.supervisor.tunnel = .halted ∧ t.supervisor.haltCounter = number ∧
    t.supervisor.halt = some
      { number := number, first := { cause := c, position := s.tracker.pos }, resume := resume, further := [], furtherLost := 0,
        entries := 0, strays := 0, pulled := 0, refusals := 0 } ∧
    ⟨.halt, none, put8 1 ++ put8 (tunnelStateCode s.supervisor.tunnel) ++ put8 4 ++ put8 7 ++ put16 number
      ++ putCause { cause := c, position := s.tracker.pos } ++ put8 (tunnelStateCode resume)⟩ ∈ t.outbox ∧
    t.supervisor.last = s.supervisor.last ∧ t.supervisor.estop = s.supervisor.estop ∧ t.tracker.pos = s.tracker.pos ∧
    (RunFollows s → CallLaw s →
      t.tracker.run = false ∧ t.tracker.stall = none ∧ t.entry.call = none ∧ t.entry.remembered = none ∧
      (∀ l, t.entry.signals.get l = false) ∧
      (∀ a, (archAt a t).phase ≠ .following ∧ (archAt a t).phase ≠ .spraying) ∧
      ((∀ car ∈ s.entry.table, car.phantom = false) → carNumbers t = carNumbers s ∧
        ∀ a, (archAt a s).phase ≠ .following → (archAt a s).phase ≠ .spraying → archAt a t = archAt a s) ∧
      (∀ car ∈ t.entry.table, car.firstHalt.isSome) ∧
      (∀ a n car, ((archAt a s).phase = .following ∨ (archAt a s).phase = .spraying) → (archAt a s).engaged = some n →
        findCar n t = some car → car.statuses.get a = some .skipped) ∧
      (∀ k u, s.entry.call = some k → findTicket k.ticket s = some u →
        findTicket k.ticket t = some { u with state := .paid }))

/-- A cause in HALTED is kept as a further cause while fewer than four are, and is counted otherwise, with its notice and nothing else
(R132); a cause in RESTARTING is appended in the same way and ends the restart attempt, with both notices (R133). Each notice reports
the tunnel state (R124). The halt notice's sub-kind 2 and the order of the values are the model's reading (log entries 13 and 15). -/
def Obligations.FurtherCausesUnderAHalt : Prop :=
  ∀ (c : Cause) (r : HaltRecord) (s : State), s.supervisor.halt = some r →
    let taken : TakenCause := { cause := c, position := s.tracker.pos }
    let record := if r.further.length < 4 then { r with further := r.further ++ [taken] }
      else { r with furtherLost := min (r.furtherLost + 1) 65535 }
    let notice : Notice := ⟨.halt, none, put8 2 ++ put8 4 ++ put16 r.number ++ putCause taken⟩
    (s.supervisor.tunnel = .halted → takeCause c s = { s with
      supervisor.halt := some record
      outbox := s.outbox ++ [notice] }) ∧
    (s.supervisor.tunnel = .restarting → takeCause c s = { s with
      supervisor.tunnel := .halted
      supervisor.restart := none
      supervisor.halt := some record
      outbox := s.outbox ++ [⟨.restart, none, put8 5 ++ put8 4 ++ put8 7 ++ put16 r.number⟩, notice] })

/-- HALT and a rise of the emergency-stop line raise their causes in every state; a line that stays asserted, or is released, changes
the reading alone (R128, R129). -/
def Obligations.HaltAndEmergencyStopRaiseCauses : Prop :=
  ∀ s : State, Settled s →
    (∀ l, LinkFree l s → permitted l .operate s = true →
      Answered l 0x20 s (exec (.halt l) s) .ok [] (takeCause .manual s)) ∧
    (∀ l, LinkFree l s → permitted l .operate s = false → Refused l 0x20 s (exec (.halt l) s) .denied) ∧
    (s.supervisor.estop = false →
      EndsIn s (exec (.estopLineChange true) s) (takeCause .estop { s with supervisor.estop := true })) ∧
    (s.supervisor.estop = true → EndsIn s (exec (.estopLineChange true) s) s) ∧
    EndsIn s (exec (.estopLineChange false) s) { s with supervisor.estop := false }

/-- RESTART in HALTED is a first confirmation and begins the window of 6000 units; outside a halt it is refused with STATE (R135). The
window runs out: the attempt lapses and the tunnel is HALTED with its record unchanged (R138); an expiry that finds the window idle or
with units left changes nothing (log entry 6). The order of the notices' values is the model's reading (log entry 13). -/
def Obligations.FirstConfirmationAndItsWindow : Prop :=
  (∀ (l : Fin 4) (s : State), Ready l s →
    (permitted l .restart s = false → Refused l 0x24 s (exec (.restart l) s) .denied) ∧
    (permitted l .restart s = true →
      ((s.supervisor.tunnel = .closed ∨ s.supervisor.tunnel = .opened ∨ s.supervisor.tunnel = .closing ∨
        s.supervisor.tunnel = .rehearsal) → Refused l 0x24 s (exec (.restart l) s) .state) ∧
      (s.supervisor.tunnel = .halted → ∀ r, s.supervisor.halt = some r →
        Answered l 0x24 s (exec (.restart l) s) .needOther []
          { s with
            supervisor.tunnel := .restarting
            supervisor.restart := some { link := l, timer := 6000 }
            outbox := [⟨.restart, none, put8 4 ++ put8 5 ++ put8 4 ++ put16 r.number ++ put8 l.val⟩] }))) ∧
  ∀ s : State, Settled s → HaltLaw s →
    (∀ first r, s.supervisor.restart = some first → first.timer = 0 → s.supervisor.halt = some r →
      EndsIn s (exec .restartWindowExpiry s) { s with
        supervisor.tunnel := .halted
        supervisor.restart := none
        outbox := [⟨.restart, none, put8 5 ++ put8 4 ++ put8 8 ++ put16 r.number⟩] }) ∧
    ((s.supervisor.tunnel ≠ .restarting ∨ ∀ first ∈ s.supervisor.restart, first.timer ≠ 0) →
      EndsIn s (exec .restartWindowExpiry s) s)

/-- RESTART in RESTARTING (R136, R137): the restart link itself is answered NEED_OTHER and nothing changes; another link's is a second
confirmation, which resumes the tunnel when every restart condition holds and is refused NOT_READY, back to HALTED, when one fails. The
order of the notices' values is the model's reading (log entry 13), and so is that the refusal's answer and its notice both carry the
failed conditions, the arches not ready and the cars flagged MISSING (log entry 35). -/
def Obligations.SecondRestartConfirmation : Prop :=
  ∀ (l : Fin 4) (first : RestartAttempt) (r : HaltRecord) (s : State), Ready l s → permitted l .restart s = true →
    s.supervisor.tunnel = .restarting → s.supervisor.restart = some first → s.supervisor.halt = some r →
    let ready := s.supervisor.estop = false ∧ s.entry.entryClosed = false ∧ s.entry.exitClosed = false ∧
      (∀ a, (archAt a s).phase = .parked ∨ (archAt a s).outOfService = true) ∧ ∀ c ∈ s.entry.table, c.missing = false
    (first.link = l → Answered l 0x24 s (exec (.restart l) s) .needOther [] s) ∧
    (first.link ≠ l → ¬ ready → Answered l 0x24 s (exec (.restart l) s) .notReady (putFailed s)
      { s with
        supervisor.tunnel := .halted
        supervisor.restart := none
        supervisor.halt := some { r with refusals := min (r.refusals + 1) 65535 }
        outbox := [⟨.restart, none, put8 5 ++ put8 4 ++ put8 4 ++ put16 r.number ++ putFailed s⟩] }) ∧
    (first.link ≠ l → ready → (r.resume = .opened ∨ r.resume = .closing ∨ r.resume = .closed) →
      let resumed : State := { s with
        supervisor.tunnel := r.resume
        supervisor.restart := none
        supervisor.halt := none
        supervisor.last := some { record := r, ending := .restarted first.link l, position := s.tracker.pos }
        outbox := [⟨.restart, none, put8 5 ++ put8 (tunnelStateCode r.resume) ++ put8 4 ++ put16 r.number
          ++ (put8 (tunnelStateCode r.resume) ++ put8 first.link.val ++ put8 l.val)⟩] }
      Answered l 0x24 s (exec (.restart l) s) .ok []
        (if r.resume = .opened then evaluateRun (arbitrate (recomputeClass resumed))
         else if r.resume = .closing ∧ s.entry.table = [] then
           evaluateRun (changeTunnel .closed .tableEmpty 0 [] (evaluateRun resumed))
         else evaluateRun resumed))

/-- OPEN_TUNNEL by the state in which it is taken (R125). The halt notice's sub-kind 1 and the order of its values are the model's
reading (log entries 13 and 15). -/
def Obligations.OpenTunnelByState : Prop :=
  ∀ (l : Fin 4) (s : State), Ready l s →
    let o := exec (.openTunnel l) s
    let opens := Answered l 0x22 s o .ok []
      (evaluateRun (arbitrate (recomputeClass { s with
        supervisor.tunnel := .opened
        outbox := [⟨.halt, none, put8 1 ++ put8 (tunnelStateCode s.supervisor.tunnel) ++ put8 2 ++ put8 1 ++ put16 0⟩] })))
    let halted := s.supervisor.tunnel = .halted ∨ s.supervisor.tunnel = .restarting
    (permitted l .operate s = false → Refused l 0x22 s o .denied) ∧
    (permitted l .operate s = true →
      (s.supervisor.tunnel = .closed →
        ((s.store.unconfigured = true ∨ layoutValid s = false) → Refused l 0x22 s o .notReady) ∧
        (s.store.unconfigured = false → layoutValid s = true → opens)) ∧
      (s.supervisor.tunnel = .closing → opens) ∧
      (s.supervisor.tunnel = .opened → Answered l 0x22 s o .ok [] s) ∧
      (∀ r, halted → s.supervisor.halt = some r →
        (r.resume = .closing → Answered l 0x22 s o .ok [] { s with supervisor.halt := some { r with resume := .opened } }) ∧
        (r.resume = .opened → Answered l 0x22 s o .ok [] s) ∧
        (r.resume = .closed → Refused l 0x22 s o .state)) ∧
      (s.supervisor.tunnel = .rehearsal → Refused l 0x22 s o .state))

/-- CLOSE_TUNNEL by the state in which it is taken (R126, R85). The halt notice's sub-kind 1 and the order of its values are the model's
reading (log entries 13 and 15). -/
def Obligations.CloseTunnelByState : Prop :=
  ∀ (l : Fin 4) (s : State), Ready l s →
    let o := exec (.closeTunnel l) s
    let halted := s.supervisor.tunnel = .halted ∨ s.supervisor.tunnel = .restarting
    (permitted l .operate s = false → Refused l 0x23 s o .denied) ∧
    (permitted l .operate s = true →
      (s.supervisor.tunnel = .opened →
        let new : TunnelState := if s.entry.table = [] then .closed else .closing
        (s.entry.call = none → Answered l 0x23 s o .ok [] (evaluateRun { s with
          entry.remembered := none
          supervisor.tunnel := new
          outbox := [⟨.halt, none, put8 1 ++ put8 2 ++ put8 (tunnelStateCode new) ++ put8 2 ++ put16 0⟩] })) ∧
        (∀ k u, s.entry.call = some k → findTicket k.ticket s = some u →
          Answered l 0x23 s o .ok [] (evaluateRun { s with
            entry.call := none
            entry.signals := s.entry.signals.set k.lane.val false k.lane.isLt
            entry.remembered := none
            sales.tickets := s.sales.tickets.map fun v => if v.number = k.ticket then { v with state := .paid } else v
            supervisor.tunnel := new
            outbox :=
              [⟨.ticket, some u.link, put8 7 ++ put16 u.number ++ put8 (laneNumber u.lane) ++ put8 2 ++ put8 u.lapses⟩,
               ⟨.halt, none, put8 1 ++ put8 2 ++ put8 (tunnelStateCode new) ++ put8 2 ++ put16 0⟩] }))) ∧
      ((s.supervisor.tunnel = .closing ∨ s.supervisor.tunnel = .closed) → Answered l 0x23 s o .ok [] s) ∧
      (∀ r, halted → s.supervisor.halt = some r →
        (r.resume = .opened → Answered l 0x23 s o .ok [] { s with supervisor.halt := some { r with resume := .closing } }) ∧
        ((r.resume = .closing ∨ r.resume = .closed) → Answered l 0x23 s o .ok [] s)) ∧
      (s.supervisor.tunnel = .rehearsal → Refused l 0x23 s o .state))

/-- CLEAR_TUNNEL: refused in the states of R140 and under an emergency stop; otherwise every car is removed, every event list is
emptied, no arch goes on working, the halt ends CLEARED and the tunnel is CLOSED, with the tickets kept (R140, R141). -/
def Obligations.ClearTunnelEmptiesTheTunnel : Prop :=
  ∀ (l : Fin 4) (s : State), Ready l s →
    let o := exec (.clearTunnel l) s
    (permitted l .operate s = false → Refused l 0x25 s o .denied) ∧
    (permitted l .operate s = true →
      (s.supervisor.tunnel ≠ .closed → s.supervisor.tunnel ≠ .halted → Refused l 0x25 s o .state) ∧
      ((s.supervisor.tunnel = .closed ∨ s.supervisor.tunnel = .halted) →
        (s.supervisor.estop = true → Refused l 0x25 s o .notReady) ∧
        (s.supervisor.estop = false → ∃ t, Answered l 0x25 s o .ok [] t ∧
          t.entry.table = [] ∧ t.supervisor.tunnel = .closed ∧ t.supervisor.halt = none ∧
          (∀ r, s.supervisor.halt = some r →
            t.supervisor.last = some { record := r, ending := .cleared, position := s.tracker.pos }) ∧
          (s.supervisor.halt = none → t.supervisor.last = s.supervisor.last) ∧
          (∀ a, (archAt a t).events = [] ∧ (archAt a t).phase ≠ .following ∧ (archAt a t).phase ≠ .spraying) ∧
          t.sales = s.sales ∧ t.settings = s.settings ∧ t.entry.entryClosed = s.entry.entryClosed ∧
          (s.supervisor.tunnel = .closed → s.entry.table = [] → t.outbox = []))))

/-- PULL_CAR: taken in HALTED and RESTARTING for a car of the table, which alone is removed, with the kind PULLED, and counted in the
halt record; the arbiter evaluates (R139, R96); the next state is the whole of that. -/
def Obligations.PullCarRemovesTheCar : Prop :=
  ∀ (l : Fin 4) (n : Nat) (s : State), Ready l s →
    let o := exec (.pullCar l n) s
    let halted := s.supervisor.tunnel = .halted ∨ s.supervisor.tunnel = .restarting
    (permitted l .operate s = false → Refused l 0x21 s o .denied) ∧
    (permitted l .operate s = true → ¬ halted → Refused l 0x21 s o .state) ∧
    (permitted l .operate s = true → halted → findCar n s = none → Refused l 0x21 s o .unknown) ∧
    (permitted l .operate s = true → halted → ∀ c r, findCar n s = some c → s.supervisor.halt = some r →
      let t := arbitrate { removeCar c .pulled s with
        supervisor.halt := some { r with pulled := min (r.pulled + 1) 65535 } }
      Answered l 0x21 s o .ok (put16 n) t ∧ n ∉ carNumbers t ∧ carNumbers t = (carNumbers s).filter (· != n) ∧
        t.supervisor.halt = some { r with pulled := min (r.pulled + 1) 65535 } ∧
        t.supervisor.tunnel = s.supervisor.tunnel ∧ t.supervisor.restart = s.supervisor.restart ∧
        t.sales = s.sales ∧ t.settings = s.settings ∧
        t.journal = (removeCar c .pulled s).journal ∧ t.arches = (removeCar c .pulled s).arches)

/-- A removal takes the car out of every block (R96, R41, R19, R70): the table keeps the others in their order, no arch lists or serves
the car, the station does not watch it, and the conveyor class is that of the cars left. -/
def Obligations.RemovalFreesTheCarEverywhere : Prop :=
  ∀ (c : Car) (kind : RemovalKind) (s : State),
    let t := removeCar c kind s
    carNumbers t = (carNumbers s).filter (· != c.number) ∧
    (∀ a, (archAt a t).events = (archAt a s).events.filter fun e => e.car != c.number) ∧
    (∀ a, (archAt a t).engaged ≠ some c.number) ∧
    (∀ a, (archAt a s).engaged ≠ some c.number → (archAt a t).phase = (archAt a s).phase ∧
      (archAt a t).command = (archAt a s).command ∧ (archAt a t).timer = (archAt a s).timer) ∧
    watchedCar t.station.watch ≠ some c.number ∧
    t.tracker.commanded = conveyorClass t ∧
    t.sales = s.sales ∧ t.settings = s.settings ∧
    (c.phantom = true → t.journal = s.journal)

/-- A recomputation hands down the smallest of the cap and the classes of the domain, and the applied classes of the cars in the domain
follow it down (R70, R72); a class handed down enters the interval class and the settle class (R9, R13). -/
def Obligations.RecomputationHandsDownTheSlowestClass : Prop :=
  ∀ s : State,
    let t := recomputeClass s
    let classes := (s.entry.table.filter (·.inDomain)).map (·.cls)
    t.tracker.commanded ≤ s.settings.site.cap ∧ (∀ k ∈ classes, t.tracker.commanded ≤ k) ∧
    (t.tracker.commanded = s.settings.site.cap ∨ t.tracker.commanded ∈ classes) ∧
    t.entry.table = s.entry.table.map (fun c =>
      if c.inDomain then
        { c with applied := some (match c.applied with
          | none => t.tracker.commanded
          | some k => min k t.tracker.commanded) }
      else c) ∧
    (t.tracker.commanded = s.tracker.commanded → t.tracker = s.tracker) ∧
    (t.tracker.commanded ≠ s.tracker.commanded → t.tracker = { s.tracker with
      commanded := t.tracker.commanded
      interval := max s.tracker.interval t.tracker.commanded
      settle := s.tracker.window.foldl max (max s.tracker.interval t.tracker.commanded) }) ∧
    t = { s with tracker := t.tracker, entry.table := t.entry.table }

/-! ## The Arch Channels -/

/-- SET_ARCH_SERVICE (R49): its refusals; a setting equal to the flag changes nothing; IN clears the flag and the trip count; OUT sets
the flag, and an arch at work lets its car go with the status SKIPPED; a change sends OPERATOR and re-evaluates availability. CLEAR_JAM
(R51): a JAMMED arch whose home switch reads closed is PARKED, with the notice CLEARED and availability re-evaluated. An arch notice
carries what R53 lists and the name of the arch's service (R99). The setting's codes, 1 for OUT and 2 for IN, are the model's reading
(log entry 30), and so is the place of the name (log entry 28). -/
def Obligations.ArchServiceAndClearJam : Prop :=
  (∀ (reason : ArchReason) (a : Fin 12) (s : State), archNotice reason a s = { s with
    outbox := s.outbox ++ [⟨.arch, none, put8 (archReasonCode reason) ++ put8 a.val ++ put8 (archPhaseCode (archAt a s).phase)
      ++ putFlag (archAt a s).outOfService ++ put8 (archAt a s).trips ++ putName 12 (serviceName (layoutAt a s).service s)⟩] }) ∧
  (∀ (l : Fin 4) (n setting : Nat) (s : State), Ready l s →
    let o := exec (.setArchService l n setting) s
    let taken (a : Fin 12) (u : State) := Answered l 0x28 s o .ok [] (reevaluate .arch (archNotice .operator a u))
    (permitted l .operate s = false → Refused l 0x28 s o .denied) ∧
    (permitted l .operate s = true →
      (12 ≤ n → Refused l 0x28 s o .unknown) ∧
      ∀ a : Fin 12, n = a.val →
        ((layoutAt a s).kind = .unused → Refused l 0x28 s o .invalid) ∧
        ((layoutAt a s).kind ≠ .unused →
          (setting ≠ 1 → setting ≠ 2 → Refused l 0x28 s o .invalid) ∧
          (setting = 1 → (archAt a s).outOfService = true → Answered l 0x28 s o .ok [] s) ∧
          (setting = 2 → (archAt a s).outOfService = false → Answered l 0x28 s o .ok [] s) ∧
          (setting = 2 → (archAt a s).outOfService = true →
            taken a (modifyArch a (fun x => { x with outOfService := false, trips := 0 }) s)) ∧
          (setting = 1 → (archAt a s).outOfService = false →
            ((archAt a s).phase ≠ .following → (archAt a s).phase ≠ .spraying →
              taken a (modifyArch a (fun x => { x with outOfService := true }) s)) ∧
            (∀ car, ((archAt a s).phase = .following ∨ (archAt a s).phase = .spraying) → (archAt a s).engaged = some car →
              taken a (handStatus a car (setStatus car a .skipped
                (startReturn a (modifyArch a (fun x => { x with outOfService := true }) s))))))))) ∧
  ∀ (l : Fin 4) (n : Nat) (s : State), Ready l s →
    let o := exec (.clearJam l n) s
    (permitted l .operate s = false → Refused l 0x29 s o .denied) ∧
    (permitted l .operate s = true →
      (12 ≤ n → Refused l 0x29 s o .unknown) ∧
      ∀ a : Fin 12, n = a.val →
        ((archAt a s).phase ≠ .jammed → Refused l 0x29 s o .state) ∧
        ((archAt a s).phase = .jammed → (archAt a s).homeClosed = false → Refused l 0x29 s o .notReady) ∧
        ((archAt a s).phase = .jammed → (archAt a s).homeClosed = true → Answered l 0x29 s o .ok []
          (reevaluate .arch (archNotice .cleared a (modifyArch a (fun x => { x with phase := .parked }) s)))))

/-- SET_ARCH (R33, R35): refused in every state but CLOSED and on a record that fails its checks; otherwise the record is in force, the
store dirty, a layout present, and the arch starts afresh from home. The field checks are the ranges of the arch record's table (R33),
the layout checks those of R34 over every used arch. -/
def Obligations.SetArchStartsTheArchAfresh : Prop :=
  (∀ r : Layout, layoutFieldsOk r = true ↔
    r.service ≤ 15 ∧ r.offset ≤ 6000 ∧ r.lead ≤ 64 ∧ r.trail ≤ 64 ∧ r.lookAhead ≤ 64 ∧ r.minimum ≤ 4095 ∧ r.maximum ≤ 4095 ∧
    50 ≤ r.slew ∧ r.slew ≤ 2000 ∧ 10 ≤ r.margin ∧ r.margin ≤ 200 ∧ 1 ≤ r.tripThreshold ∧ r.tripThreshold ≤ 255 ∧
    ((r.kind = .lift ∨ r.kind = .reachLeft ∨ r.kind = .reachRight) → r.minimum < r.maximum) ∧
    (r.kind = .spray → r.lookAhead = 0)) ∧
  (∀ (layouts : Vector Layout 12) (site : Site), layoutChecks layouts site = true ↔
    ∀ a : Fin 12, (layouts.get a).kind ≠ .unused →
      let r := layouts.get a
      site.gaugeOffset + 8 ≤ r.offset ∧
      ((r.kind = .lift ∨ r.kind = .reachLeft ∨ r.kind = .reachRight) → site.gaugeOffset + r.lookAhead + 8 ≤ r.offset) ∧
      r.offset + r.trail + 16 + site.exitTolerance < site.exitOffset ∧ r.lead + r.trail + 150 ≤ site.gap) ∧
  ∀ (l : Fin 4) (n : Nat) (arg : LayoutArg) (s : State), Ready l s →
    let o := exec (.setArch l n arg) s
    (permitted l .configure s = false → Refused l 0x38 s o .denied) ∧
    (permitted l .configure s = true →
      (12 ≤ n → Refused l 0x38 s o .unknown) ∧
      ∀ a : Fin 12, n = a.val →
        (s.supervisor.tunnel ≠ .closed → Refused l 0x38 s o .state) ∧
        (s.supervisor.tunnel = .closed →
          (layoutOf arg = none → Refused l 0x38 s o .invalid) ∧
          ∀ r, layoutOf arg = some r →
            let layouts := modifyAt s.settings.layouts a fun _ => r
            (layoutFieldsOk r = false ∨ layoutChecks layouts s.settings.site = false → Refused l 0x38 s o .invalid) ∧
            (layoutFieldsOk r = true → layoutChecks layouts s.settings.site = true →
              let returns := isFollowing r.kind && !(archAt a s).homeClosed
              Answered l 0x38 s o .ok [] (reevaluate .arch { s with
                settings.layouts := layouts
                store.layoutPresent := true
                store.dirty := true
                arches := modifyAt s.arches a fun x =>
                  { x with
                    phase := if returns then .returning else .parked
                    command := r.maximum
                    engaged := none
                    events := []
                    overOnce := false
                    trips := 0
                    outOfService := r.initiallyOut
                    timer := if returns then some (s.settings.site.returnTimeout * 100) else none } }))))

/-- Availability (R104, R105): a plan, and an extra, is AVAILABLE exactly when it is enabled and each of its services has an arch that
is used, in service and not JAMMED; each change of it is noticed, plans before extras, and nothing else changes. The codes 1 for a plan
and 2 for an extra and the service names at the end of a notice are the model's reading (log entries 50 and 28). -/
def Obligations.AvailabilityFollowsTheArches : Prop :=
  ∀ (r : AvailabilityReason) (s : State),
    let t := reevaluate r s
    let covered (x : ServicePress) := ∃ a : Fin 12, (layoutAt a s).kind ≠ .unused ∧ (layoutAt a s).service = x.service ∧
      (archAt a s).outOfService = false ∧ (archAt a s).phase ≠ .jammed
    let reason := match r with
      | .arch => 1
      | .edit => 2
    let names (services : List ServicePress) :=
      putList (fun x : ServicePress => putName 12 (serviceName x.service s)) (services.take 8)
    (∀ i, t.sales.planAvailable.get i = true ↔
      (s.settings.plans.get i).enabled = true ∧ ∀ x ∈ (s.settings.plans.get i).services, covered x) ∧
    (∀ i, t.sales.extraAvailable.get i = true ↔
      (s.settings.extras.get i).enabled = true ∧ ∀ x ∈ (s.settings.extras.get i).services, covered x) ∧
    t.outbox = s.outbox
      ++ ((List.finRange 24).filter fun i => t.sales.planAvailable.get i != s.sales.planAvailable.get i).map (fun i =>
        ⟨.availability, none, put8 1 ++ put8 i.val ++ putName 16 (s.settings.plans.get i).name
          ++ put8 (if t.sales.planAvailable.get i then 1 else 2) ++ put8 reason ++ names (s.settings.plans.get i).services⟩)
      ++ ((List.finRange 8).filter fun i => t.sales.extraAvailable.get i != s.sales.extraAvailable.get i).map (fun i =>
        ⟨.availability, none, put8 2 ++ put8 i.val ++ putName 16 (s.settings.extras.get i).name
          ++ put8 (if t.sales.extraAvailable.get i then 1 else 2) ++ put8 reason ++ names (s.settings.extras.get i).services⟩) ∧
    t = { s with
      sales.planAvailable := t.sales.planAvailable
      sales.extraAvailable := t.sales.extraAvailable
      outbox := t.outbox }

/-- The lines of an arch (R45, R48): a load code stands on its line until the next; a home switch that closes ends a return, and changes
its reading alone otherwise; a return timer that has run out jams a RETURNING arch, with ARCH_JAM, its notice and availability; an
expiry that finds units left changes nothing (log entry 6). -/
def Obligations.ArchLinesAndReturnTimeout : Prop :=
  ∀ (a : Fin 12) (s : State), Settled s →
    (∀ code, EndsIn s (exec (.loadCodeReceived a code) s) (modifyArch a (fun x => { x with loadLine := code.toNat }) s)) ∧
    ((archAt a s).phase = .returning → EndsIn s (exec (.homeSwitchChange a true) s)
      (modifyArch a (fun x => { x with homeClosed := true, phase := .parked, timer := none }) s)) ∧
    ((archAt a s).phase ≠ .returning → EndsIn s (exec (.homeSwitchChange a true) s)
      (modifyArch a (fun x => { x with homeClosed := true }) s)) ∧
    EndsIn s (exec (.homeSwitchChange a false) s) (modifyArch a (fun x => { x with homeClosed := false }) s) ∧
    (((archAt a s).phase ≠ .returning ∨ (archAt a s).timer ≠ some 0) → EndsIn s (exec (.returnTimeout a) s) s) ∧
    ((archAt a s).phase = .returning → (archAt a s).timer = some 0 → EndsIn s (exec (.returnTimeout a) s)
      (reevaluate .arch (archNotice .jam a (takeCause (.archJam a)
        (modifyArch a (fun x => { x with phase := .jammed, timer := none }) s)))))

/-- An ENGAGE that fires on a PENDING status settles it by the first line of R43 that applies, and on any other status does nothing. A
RELEASE that fires makes ACTIVE DONE and the trip count 0, leaves other statuses, and sends home an arch engaged with the car (R44,
R48). Entries are inserted where R38 and R39 give, at the arches with a PENDING status and at those with any status (the latter is log
entry 40); a list is read in order of the signed distance from P and two entries at one position in the order of R40's table; on a pitch
the due entries that stood before it fire in that order and leave the list (R42, R3). That an entry inserted on the same pitch does not
hold back those behind it, though R42 fires 'while the head entry' is due, is the model's reading (log entry 8). -/
def Obligations.EngageAndReleaseSettleTheStatus : Prop :=
  (∀ (n : Nat) (c : Car) (o : Pos) (a : Fin 12) (s : State), findCar n s = some c → c.origin = some o →
    let r := layoutAt a s
    let engage : ArchEvent := ⟨o + BitVec.ofNat 16 r.offset - BitVec.ofNat 16 r.lead, n, .engage⟩
    let release : ArchEvent :=
      ⟨o + BitVec.ofNat 16 r.offset + BitVec.ofNat 16 (8 * (c.samples.length - 1)) + BitVec.ofNat 16 r.trail, n, .release⟩
    (r.kind ≠ .unused → c.statuses.get a = some .pending →
      (archAt a (insertEngages n s)).events.Perm (engage :: (archAt a s).events)) ∧
    ((r.kind = .unused ∨ c.statuses.get a ≠ some .pending) → archAt a (insertEngages n s) = archAt a s) ∧
    (r.kind ≠ .unused → c.statuses.get a ≠ none →
      (archAt a (insertReleases n s)).events.Perm (release :: (archAt a s).events)) ∧
    ((r.kind = .unused ∨ c.statuses.get a = none) → archAt a (insertReleases n s) = archAt a s)) ∧
  (∀ (a : Fin 12) (p : Pos) (before : List ArchEvent) (s : State),
    let due (e : ArchEvent) : Bool := decide (0 ≤ signedDiff p e.position) && decide (e ∈ before)
    (eventList a s).Perm (archAt a s).events ∧
    (eventList a s).Pairwise (fun x y => signedDiff x.position s.tracker.pos ≤ signedDiff y.position s.tracker.pos) ∧
    fireDue a p before s = ((eventList a s).filter due).foldl
      (fun u e => match e.kind with
        | .engage => fireEngage a e.car u
        | .release => fireRelease a e.car u)
      (modifyArch a (fun x => { x with events := (eventList a s).filter fun e => !due e }) s) ∧
    (archAt a (fireDue a p before s)).events = (eventList a s).filter fun e => !due e) ∧
  (∀ (p : Pos) (cars : List Nat) (x y : ArchEvent), x.position = y.position →
    (x.car = y.car ∧ x.kind = .engage ∧ y.kind = .release ∨ x.car ≠ y.car ∧ x.kind = .release ∧ y.kind = .engage ∨
      x.kind = y.kind ∧ cars.idxOf x.car < cars.idxOf y.car) →
    orderEvents p cars [x, y] = [x, y] ∧ orderEvents p cars [y, x] = [x, y]) ∧
  (∀ (a : Fin 12) (n : Nat) (c : Car) (s : State), findCar n s = some c →
    let t := fireEngage a n s
    let x := archAt a s
    let unserved := x.outOfService = true ∨ x.phase = .jammed
    let halted := s.supervisor.tunnel = .halted ∨ s.supervisor.tunnel = .restarting
    (c.statuses.get a ≠ some .pending → t = s) ∧
    (c.statuses.get a = some .pending →
      (unserved → t = handStatus a n (setStatus n a .omitted s)) ∧
      (¬ unserved → halted → t = handStatus a n (tagCar n .halted (setStatus n a .skipped s))) ∧
      (¬ unserved → ¬ halted → x.engaged ≠ none → t = handStatus a n (tagCar n .archBusy (setStatus n a .skipped s))) ∧
      (¬ unserved → ¬ halted → x.engaged = none →
        t = modifyArch a (fun x =>
          { x with
            engaged := some n
            overOnce := false
            timer := none
            phase := if isFollowing (layoutAt a s).kind then .following else .spraying })
          (setStatus n a .active s)))) ∧
  ∀ (a : Fin 12) (n : Nat) (c : Car) (s : State), findCar n s = some c →
    let t := fireRelease a n s
    (c.statuses.get a ≠ some .active → (archAt a s).engaged ≠ some n → t = s) ∧
    (c.statuses.get a = some .active → ∀ d, findCar n t = some d → d.statuses.get a = some .done ∧ (archAt a t).trips = 0) ∧
    (c.statuses.get a ≠ some .active → ∀ d, findCar n t = some d → d.statuses.get a = c.statuses.get a) ∧
    ((archAt a s).engaged = some n →
      (archAt a t).engaged = none ∧
      (archAt a t).phase = (if isFollowing (layoutAt a s).kind && !(archAt a s).homeClosed then .returning else .parked) ∧
      (isFollowing (layoutAt a s).kind = true → (archAt a t).command = (layoutAt a s).maximum)) ∧
    ((archAt a s).engaged ≠ some n → (archAt a t).phase = (archAt a s).phase ∧ (archAt a t).engaged = (archAt a s).engaged)

/-- The load check (R45 to R47): none is made in REHEARSAL or by an arch that is not FOLLOWING; under the threshold the over count is 0,
a first over code makes it 1, a second trips: the arch goes home, its car is SKIPPED and takes the tag ARCH_TRIP, the trip count rises,
policy HALT raises LOAD_TRIP, and a third trip in a row takes the arch out of service, with the notice TRIPS and availability
re-evaluated. -/
def Obligations.SecondOverLoadTripsTheArch : Prop :=
  (∀ (a : Fin 12) (s : State), (s.supervisor.tunnel = .rehearsal ∨ (archAt a s).phase ≠ .following) → loadCheck a s = s) ∧
  ∀ (a : Fin 12) (n : Nat) (s : State), (archAt a s).engaged = some n → (archAt a s).phase = .following →
    s.supervisor.tunnel ≠ .rehearsal →
    let t := loadCheck a s
    let x := archAt a s
    (x.loadLine < (layoutAt a s).tripThreshold →
      t = modifyArch a (fun x => { x with loadRead := x.loadLine, overOnce := false }) s) ∧
    ((layoutAt a s).tripThreshold ≤ x.loadLine → x.overOnce = false →
      t = modifyArch a (fun x => { x with loadRead := x.loadLine, overOnce := true }) s) ∧
    ((layoutAt a s).tripThreshold ≤ x.loadLine → x.overOnce = true →
      (archAt a t).engaged = none ∧ (archAt a t).overOnce = false ∧ (archAt a t).trips = min (x.trips + 1) 3 ∧
      (archAt a t).phase ≠ .following ∧ (isFollowing (layoutAt a s).kind = true → (archAt a t).command = (layoutAt a s).maximum) ∧
      (archAt a t).outOfService = (x.outOfService || decide (2 ≤ x.trips)) ∧
      (∀ c, findCar n t = some c → c.statuses.get a = some .skipped) ∧
      (∀ c d, findCar n s = some c → findCar n t = some d →
        (.archTrip a ∈ c.tags → d.tags = c.tags ∧ d.tagsLost = c.tagsLost) ∧
        (.archTrip a ∉ c.tags → c.tags.length < 4 → d.tags = c.tags ++ [.archTrip a] ∧ d.tagsLost = c.tagsLost) ∧
        (.archTrip a ∉ c.tags → 4 ≤ c.tags.length → d.tags = c.tags ∧ d.tagsLost = c.tagsLost + 1)) ∧
      t.raised = s.raised ++ (if (layoutAt a s).policy = .halt then [.loadTrip a n] else []) ∧
      let freed := startReturn a (modifyArch a (fun x => { x with loadRead := x.loadLine, overOnce := true }) s)
      let skipped := handStatus a n (tagCar n (.archTrip a) (setStatus n a .skipped freed))
      let counted := modifyArch a (fun x => { x with trips := min (x.trips + 1) 3 }) skipped
      let handed := if (layoutAt a s).policy = .halt then { counted with raised := s.raised ++ [.loadTrip a n] } else counted
      ((x.trips < 2 ∨ x.outOfService = true) → t = handed) ∧
      (2 ≤ x.trips → x.outOfService = false →
        t = reevaluate .arch (archNotice .trips a (modifyArch a (fun x => { x with outOfService := true }) handed))))

/-- The following computation of a FOLLOWING arch on a pitch (R55 to R63): car coordinate, window value less press clamped to the range,
a step of at most the step limit towards it, and SLEW_DEFICIT when the command stands too far below the car. In REHEARSAL it is the same
computation (R64): the traced arch's goes to the trace ring, of 64 entries at most and with the count stopping at 65,535 (R166), and a
deficit over the margin raises nothing and tags the car SHADOW_DEFICIT once for each arch. An arch that is not FOLLOWING does nothing. -/
def Obligations.FollowingMovesTowardsTheTarget : Prop :=
  (∀ (a : Fin 12) (p : Pos) (settle : Nat) (s : State), (archAt a s).phase ≠ .following → followStep a p settle s = s) ∧
  (∀ (a : Fin 12) (p : Pos) (settle n : Nat) (c : Car) (origin : Pos) (s : State),
    (archAt a s).engaged = some n → (archAt a s).phase = .following → findCar n s = some c → c.origin = some origin →
    s.supervisor.tunnel = .rehearsal →
    let layout := layoutAt a s
    let series := c.samples.map (seriesOf layout.kind)
    let u := signedDiff p (origin + BitVec.ofNat 16 layout.offset)
    let press := pressFor c.services layout.service
    let step := max 1 (layout.slew / speedOf s.settings.site settle)
    let raw : Int := (windowValue series u layout.lookAhead : Int) - press
    let target := if raw < layout.minimum then layout.minimum else if layout.maximum < raw then layout.maximum else raw.toNat
    let command := (archAt a s).command
    let moved := if command < target then min target (command + step)
      else if target < command then max target (command - step) else command
    let deficit : Int := (interpolate series u : Int) - press - moved
    let number := s.rehearsal.written + 1
    let ring := s.trace ++ [{ number := number, position := p, target := target, command := moved, deficit := deficit }]
    let t := modifyArch a (fun x => { x with command := moved }) s
    let written : State := { t with
      rehearsal.written := number
      trace := if s.trace.length < 64 then ring else ring.drop 1 }
    let traced := if s.rehearsal.traced = some a ∧ s.rehearsal.written < 65535 then written else t
    followStep a p settle s = (if (layout.margin : Int) < deficit then
        { traced with entry.table := traced.entry.table.map fun k =>
            if k.number = n ∧ a ∉ k.shadowed then { k.addTag (.shadowDeficit a) with shadowed := a :: k.shadowed } else k }
      else traced)) ∧
  ∀ (a : Fin 12) (p : Pos) (settle n : Nat) (c : Car) (origin : Pos) (s : State),
    (archAt a s).engaged = some n → (archAt a s).phase = .following → findCar n s = some c → c.origin = some origin →
    s.supervisor.tunnel ≠ .rehearsal →
    let layout := layoutAt a s
    let series := c.samples.map (seriesOf layout.kind)
    let u := signedDiff p (origin + BitVec.ofNat 16 layout.offset)
    let press := pressFor c.services layout.service
    let step := max 1 (layout.slew / speedOf s.settings.site settle)
    let raw : Int := (windowValue series u layout.lookAhead : Int) - press
    let target := if raw < layout.minimum then layout.minimum else if layout.maximum < raw then layout.maximum else raw.toNat
    let command := (archAt a s).command
    let moved := if command < target then min target (command + step)
      else if target < command then max target (command - step) else command
    let deficit : Int := (interpolate series u : Int) - press - moved
    let t := modifyArch a (fun x => { x with command := moved }) s
    followStep a p settle s = (if (layout.margin : Int) < deficit then { t with raised := s.raised ++ [.slewDeficit a n] } else t)

/-- The interpolated value (R57): held before the first and after the last sample, the sample itself on a sample, the straight line
rounded half up between two. The window value (R58) is the largest of the two interpolated ends and of the samples strictly between. -/
def Obligations.InterpolationAndWindow : Prop :=
  ∀ (series : List Nat) (x : Int) (w : Nat), series ≠ [] →
    let n := series.length
    (x ≤ 0 → interpolate series x = series.getD 0 0) ∧
    (8 * ((n : Int) - 1) ≤ x → 0 < x → interpolate series x = series.getD (n - 1) 0) ∧
    (∀ k, k < n → interpolate series (8 * k : Nat) = series.getD k 0) ∧
    (∀ k r, k + 1 < n → 0 < r → r < 8 →
      interpolate series (8 * k + r : Nat) = (series.getD k 0 * (8 - r) + series.getD (k + 1) 0 * r + 4) / 8) ∧
    interpolate series x ≤ windowValue series x w ∧ interpolate series (x + w) ≤ windowValue series x w ∧
    (∀ k, k < n → x < 8 * (k : Int) → 8 * (k : Int) < x + w → series.getD k 0 ≤ windowValue series x w) ∧
    (windowValue series x w = interpolate series x ∨ windowValue series x w = interpolate series (x + w) ∨
      ∃ k, k < n ∧ x < 8 * (k : Int) ∧ 8 * (k : Int) < x + w ∧ windowValue series x w = series.getD k 0) ∧
    windowValue series x w ≤ series.foldl max 0 ∧ windowValue series x 0 = interpolate series x

/-- A car's class is the highest, from its maximum down to 1, at which every counted arch can step as far as it must; class 1 if none
(R67). A new record has requirements 0, its maximum class and no place in the domain (R65); a sample appended raises each counted arch's
requirement to the ceiling of the rise over 8 + W, and the class follows (R66, R67); a car joins the domain if it holds a following
status, and leaves it once none is PENDING or ACTIVE, the conveyor class being recomputed with either (R69, R70). -/
def Obligations.ClassIsTheHighestThatQualifies : Prop :=
  (∀ (n : Nat) (sale : Sale) (s : State),
    let c := newCar n sale s
    (∀ a, c.requirements.get a = 0) ∧ c.cls = sale.maxClass ∧ c.applied = none ∧ c.inDomain = false) ∧
  (∀ (n : Nat) (c : Car) (before : List Sample) (x y : Sample) (s : State), findCar n s = some c → c.samples = before ++ [x, y] →
    ∀ d, findCar n (paceSample n s) = some d →
      (∀ a, d.requirements.get a = if followingArch a s = true ∧ (c.statuses.get a).isSome = true then
          max (c.requirements.get a)
            ((seriesOf (layoutAt a s).kind y - seriesOf (layoutAt a s).kind x + (7 + (layoutAt a s).lookAhead))
              / (8 + (layoutAt a s).lookAhead))
        else c.requirements.get a) ∧
      d.cls = classOf s d ∧ d.samples = c.samples ∧ d.statuses = c.statuses) ∧
  (∀ (n : Nat) (c : Car) (s : State), findCar n s = some c →
    let followed (st : ArchStatus) := ∃ a, followingArch a s = true ∧ c.statuses.get a = some st
    let place (inside : Bool) : State := recomputeClass { s with
      entry.table := s.entry.table.map fun d => if d.number = n then { d with inDomain := inside } else d }
    ((∃ st, followed st) → joinDomain n s = place true) ∧
    ((∀ st, ¬ followed st) → joinDomain n s = s) ∧
    (c.inDomain = true → ¬ followed .pending → ¬ followed .active → statusSettled n s = place false) ∧
    ((c.inDomain = false ∨ followed .pending ∨ followed .active) → statusSettled n s = s)) ∧
  ∀ (c : Car) (s : State), 1 ≤ c.maxClass →
    let meets (k : Nat) := ∀ a, followingArch a s = true → (c.statuses.get a).isSome →
      c.requirements.get a ≤ max 1 ((layoutAt a s).slew / speedOf s.settings.site k)
    let k := classOf s c
    1 ≤ k ∧ k ≤ c.maxClass ∧ (meets k ∨ k = 1) ∧ ∀ j, k < j → j ≤ c.maxClass → ¬ meets j


/-! ## The catalog, the locks and the settings -/

/-- The catalog's edits and LOCK_RANGE that pass their tests (R99, R101 to R103, R181): the record is replaced as a whole, the store is
dirty, availability is re-evaluated; a lock range takes the next place and leaves the store clean. -/
def Obligations.CatalogEditsReplaceTheRecord : Prop :=
  ∀ (l : Fin 4) (n : Nat) (s : State), Ready l s →
    (∀ name, permitted l .configure s = true → n < 16 → nameOk 12 name = true →
      Answered l 0x33 s (exec (.editService l n name) s) .ok [] (reevaluate .edit { s with
        settings.services := store s.settings.services n (nameOf name)
        store.dirty := true })) ∧
    (∀ p, n < 24 → mayEdit l (planRecord n s).region s = true → mayEdit l p.region s = true →
      (∀ r ∈ s.locks, n < r.1 ∨ r.2 < n) → planOk p = true →
      Answered l 0x30 s (exec (.editPlan l n p) s) .ok [] (reevaluate .edit { s with
        settings.plans := store s.settings.plans n { p with name := nameOf p.name }
        store.dirty := true })) ∧
    (∀ e, n < 8 → (∀ p ∈ s.settings.plans.toList, inSet p.allowed n = true → mayEdit l p.region s = true) →
      ((∀ p ∈ s.settings.plans.toList, inSet p.allowed n = false) → mayEditSome l s = true) → extraOk e = true →
      Answered l 0x31 s (exec (.editExtra l n e) s) .ok [] (reevaluate .edit { s with
        settings.extras := store s.settings.extras n { e with name := nameOf e.name }
        store.dirty := true })) ∧
    (∀ r d, n < 8 → (∀ m, m < 8 → inSet (discountSlot n s).regions m = true ∨ inSet r.regions m = true → mayEdit l m s = true) →
      (((discountSlot n s).regions = 0 ∧ r.regions = 0) → mayEditSome l s = true) → discountOfArg r = some d →
      Answered l 0x32 s (exec (.editDiscount l n r) s) .ok [] (reevaluate .edit { s with
        settings.discounts := store s.settings.discounts n d
        store.dirty := true })) ∧
    (∀ last, permitted l .configure s = true → n ≤ last → last < 24 → s.locks.length < 4 →
      Answered l 0x34 s (exec (.lockRange l n last) s) .ok (put8 (s.locks.length + 1)) { s with locks := s.locks ++ [(n, last)] })

/-- The catalog's edits and LOCK_RANGE are refused by the first test they fail, and change nothing (R99, R100, R102, R103, R181). The
checks of a name, a plan, an extra and a discount, and the rights over an extra and a discount, are those these rules give. That a
discount kind outside the three is INVALID is the model's reading (log entry 32), as is that a new region outside 0 to 3 is judged by
the rights first (log entry 39). -/
def Obligations.CatalogEditRefusals : Prop :=
  (∀ (width : Nat) (field : List Byte), nameOk width field = true ↔
    field.length ≤ width ∧ ∃ name pad, field = name ++ List.replicate pad 0 ∧ ∀ b ∈ name, 0x20 ≤ b.toNat ∧ b.toNat ≤ 0x7E) ∧
  (∀ (most : Nat) (l : List ServicePress), servicesOk most l = true ↔
    l.length ≤ most ∧ (∀ x ∈ l, x.service ≤ 15 ∧ x.press ≤ 150) ∧ (l.map (·.service)).Nodup) ∧
  (∀ p : Plan, planOk p = true ↔
    nameOk 16 p.name = true ∧ p.region ≤ 3 ∧ p.price ≤ 99999 ∧ 1 ≤ p.maxClass ∧ p.maxClass ≤ 4 ∧ servicesOk 12 p.services = true) ∧
  (∀ e : Extra, extraOk e = true ↔ nameOk 16 e.name = true ∧ e.price ≤ 99999 ∧ servicesOk 3 e.services = true) ∧
  (∀ (r : DiscountArg) (d : Discount), discountOfArg r = some d ↔
    d.value = r.value ∧ d.regions = r.regions ∧
      (r.kind = 1 ∧ d.kind = .none ∧ r.value = 0 ∧ r.regions = 0 ∨
        r.regions ≠ 0 ∧ (∀ m, inSet r.regions m = true → m ≤ 3) ∧
          (r.kind = 2 ∧ d.kind = .amount ∧ 1 ≤ r.value ∧ r.value ≤ 99999 ∨
            r.kind = 3 ∧ d.kind = .percent ∧ 1 ≤ r.value ∧ r.value ≤ 100))) ∧
  (∀ (l : Fin 4) (n : Nat) (s : State),
    let some : Prop := s.strap = true ∨ (accessAt l s).edit ≠ 0
    let every (inSome : Nat → Prop) : Prop := s.strap = true ∨ ∀ m, inSome m → inSet (accessAt l s).edit m = true
    (mayEditExtra l n s = true ↔
      ((∀ p ∈ s.settings.plans.toList, inSet p.allowed n = false) → some) ∧
      every fun m => ∃ p ∈ s.settings.plans.toList, inSet p.allowed n = true ∧ p.region = m) ∧
    ∀ regions : Byte, mayEditDiscount l n regions s = true ↔
      ((discountSlot n s).regions = 0 → regions = 0 → some) ∧
      every fun m => inSet (discountSlot n s).regions m = true ∨ inSet regions m = true) ∧
  ∀ (l : Fin 4) (n : Nat) (s : State), Ready l s →
    (∀ name,
      let o (st : Status) := Refused l 0x33 s (exec (.editService l n name) s) st
      (permitted l .configure s = false → o .denied) ∧
      (permitted l .configure s = true → 16 ≤ n → o .unknown) ∧
      (permitted l .configure s = true → n < 16 → nameOk 12 name = false → o .invalid)) ∧
    (∀ p,
      let o (st : Status) := Refused l 0x30 s (exec (.editPlan l n p) s) st
      let rights := mayEdit l (planRecord n s).region s = true ∧ mayEdit l p.region s = true
      let locked := ∃ r ∈ s.locks, r.1 ≤ n ∧ n ≤ r.2
      (24 ≤ n → o .unknown) ∧ (n < 24 → ¬ rights → o .denied) ∧ (n < 24 → rights → locked → o .locked) ∧
      (n < 24 → rights → ¬ locked → planOk p = false → o .invalid)) ∧
    (∀ e,
      let o (st : Status) := Refused l 0x31 s (exec (.editExtra l n e) s) st
      (8 ≤ n → o .unknown) ∧ (n < 8 → mayEditExtra l n s = false → o .denied) ∧
      (n < 8 → mayEditExtra l n s = true → extraOk e = false → o .invalid)) ∧
    (∀ r,
      let o (st : Status) := Refused l 0x32 s (exec (.editDiscount l n r) s) st
      (8 ≤ n → o .unknown) ∧ (n < 8 → mayEditDiscount l n r.regions s = false → o .denied) ∧
      (n < 8 → mayEditDiscount l n r.regions s = true → discountOfArg r = none → o .invalid)) ∧
    (∀ last,
      let o (st : Status) := Refused l 0x34 s (exec (.lockRange l n last) s) st
      (permitted l .configure s = false → o .denied) ∧
      (permitted l .configure s = true → (24 ≤ n ∨ 24 ≤ last) → o .unknown) ∧
      (permitted l .configure s = true → n < 24 → last < n → o .invalid) ∧
      (permitted l .configure s = true → last < 24 → n ≤ last → 4 ≤ s.locks.length → o .busy))

/-- SET_GAUGE, SET_SITE, SET_ACCESS and SUBSCRIBE (R17, R186, R179, R177): their refusals, and the settings they write, with the store
dirty. A parameter set is judged by the ranges of the table of site parameters, by E and G, and by class speeds that rise strictly. -/
def Obligations.SiteSettingsAreWritten : Prop :=
  (∀ p : Site, siteOk p = true ↔
    150 ≤ p.gaugeOffset ∧ p.gaugeOffset ≤ 1000 ∧ p.gaugeOffset + 100 ≤ p.exitOffset ∧ p.exitOffset ≤ 6000 ∧
    10 ≤ p.exitTolerance ∧ p.exitTolerance ≤ 100 ∧ 100 ≤ p.gap ∧ p.gap ≤ 1000 ∧ p.rollback ≤ 32 ∧
    (∀ k : Fin 4, 4 ≤ p.speeds.get k ∧ p.speeds.get k ≤ 40) ∧ p.speeds.get 0 < p.speeds.get 1 ∧ p.speeds.get 1 < p.speeds.get 2 ∧
    p.speeds.get 2 < p.speeds.get 3 ∧ 1 ≤ p.cap ∧ p.cap ≤ 4 ∧ 100 ≤ p.presence ∧ p.presence ≤ 1000 ∧ 15 ≤ p.quoteHold ∧
    p.quoteHold ≤ 300 ∧ 5 ≤ p.callTimeout ∧ p.callTimeout ≤ 60 ∧ 2 ≤ p.returnTimeout ∧ p.returnTimeout ≤ 30 ∧ 1 ≤ p.stallTime ∧
    p.stallTime ≤ 10 ∧ (∀ l : Fin 3, 1 ≤ p.stackLimits.get l ∧ p.stackLimits.get l ≤ 16) ∧ ∀ n ∈ p.fallback, n ≤ 23) ∧
  ∀ (l : Fin 4) (s : State), Ready l s →
    (∀ gauge first values,
      let o := exec (.setGauge l gauge first values) s
      (permitted l .configure s = false → Refused l 0x39 s o .denied) ∧
      (permitted l .configure s = true →
        ((gauge = 0 ∨ 3 < gauge) → Refused l 0x39 s o .unknown) ∧
        ∀ g : Fin 3, gauge = g.val + 1 →
          let bad := values.length < 1 ∨ 64 < values.length ∨ 256 < first + values.length ∨ ∃ v ∈ values, 4095 < v
          (s.supervisor.tunnel ≠ .closed → Refused l 0x39 s o .state) ∧
          (s.supervisor.tunnel = .closed → bad → Refused l 0x39 s o .invalid) ∧
          (s.supervisor.tunnel = .closed → ¬ bad → ∃ t, Answered l 0x39 s o .ok [] t ∧
            t = { s with
              settings.gauges := t.settings.gauges
              store.dirty := true } ∧
            (∀ c : Fin 256, (t.settings.gauges.get g).get c
              = if first ≤ c.val ∧ c.val < first + values.length then values.getD (c.val - first) 0
                else (s.settings.gauges.get g).get c) ∧
            ∀ h : Fin 3, h ≠ g → t.settings.gauges.get h = s.settings.gauges.get h))) ∧
    (∀ site,
      let o := exec (.setSite l site) s
      let bad := siteOk site = false ∨ ∃ m : Fin 3, site.stackLimits.get m < laneCount m s
      (permitted l .configure s = false → Refused l 0x3A s o .denied) ∧
      (permitted l .configure s = true →
        (s.supervisor.tunnel ≠ .closed → Refused l 0x3A s o .state) ∧
        (s.supervisor.tunnel = .closed → bad → Refused l 0x3A s o .invalid) ∧
        (s.supervisor.tunnel = .closed → ¬ bad → Answered l 0x3A s o .ok [] (recomputeClass { s with
          settings.site := site
          store.dirty := true })))) ∧
    (∀ target entry,
      let o := exec (.setAccess l target entry) s
      (permitted l .configure s = false → Refused l 0x3C s o .denied) ∧
      (permitted l .configure s = true →
        (4 ≤ target → Refused l 0x3C s o .unknown) ∧
        ∀ m : Fin 4, target = m.val →
          let table := modifyAt s.settings.access m fun _ => entry
          let bad := (∃ n ∈ entry.lane, n < 1 ∨ 3 < n) ∨ subset entry.sell 0x0F = false ∨ subset entry.edit 0x0F = false ∨
            subset entry.permissions 0x0F = false ∨ ∀ k : Fin 4, inSet (table.get k).permissions 3 = false
          (bad → Refused l 0x3C s o .invalid) ∧
          (¬ bad → Answered l 0x3C s o .ok [] { s with
            settings.access := table
            store.dirty := true }))) ∧
    (∀ set, Answered l 0x50 s (exec (.subscribe l set) s) .ok [set] { s with
      settings.access := modifyAt s.settings.access l fun e => { e with subscriptions := set }
      store.dirty := true })

/-- SET_TEST_PROFILE (R29, R30): a start piece opens the record of its number, a continuation of the same link extends it, the piece
that completes it commits the profile, and a refused piece leaves the record as it was. -/
def Obligations.TestProfilesAreStagedAndCommitted : Prop :=
  ∀ (l : Fin 4) (profile n first : Nat) (samples : List Sample) (s : State), Ready l s →
    let o := exec (.setTestProfile l profile n first samples) s
    let c := samples.length
    let wide := ∃ x ∈ samples, 4095 < x.top ∨ 4095 < x.left ∨ 4095 < x.right
    (permitted l .configure s = false → Refused l 0x3B s o .denied) ∧
    (permitted l .configure s = true →
      (2 ≤ profile → Refused l 0x3B s o .unknown) ∧
      ∀ k : Fin 2, profile = k.val →
        let taken (held : List Sample) := Answered l 0x3B s o .ok (put8 (first + c))
          (if first + c = n then { s with
             station.staging := modifyAt s.station.staging k fun _ => none
             settings.testProfiles := modifyAt s.settings.testProfiles k fun _ => some held
             store.dirty := true }
           else { s with station.staging := modifyAt s.station.staging k fun _ => some (Staging.mk l n (first + c) held) })
        let badStart := n < 2 ∨ 96 < n ∨ c < 1 ∨ 16 < c ∨ n < c ∨ wide
        (first = 0 → badStart → Refused l 0x3B s o .invalid) ∧
        (first = 0 → ¬ badStart → taken samples) ∧
        (0 < first → s.station.staging.get k = none → Refused l 0x3B s o .invalid) ∧
        (0 < first → ∀ g, s.station.staging.get k = some g →
          let badMore := n ≠ g.length ∨ first ≠ g.next ∨ c < 1 ∨ 16 < c ∨ n < first + c ∨ wide
          (g.link ≠ l → Refused l 0x3B s o .busy) ∧
          (g.link = l → badMore → Refused l 0x3B s o .invalid) ∧
          (g.link = l → ¬ badMore → taken (g.samples ++ samples))))

/-- A save (R188, R189): SAVE_STORE takes the snapshot and starts at ERASING with 400 units; stages follow; a report ends it with the
image of the snapshot or with the store invalid; the timer ends it invalid; without a save in flight these events change nothing, nor
does an expiry with units left (log entry 6). An image is written with its check value, which has no formula, and is none from the
erasure on (log entry 4); a report counts at any stage (log entry 48), a verification that no report told of at VERIFYING alone (log
entry 18). -/
def Obligations.SaveBeginsAndEnds : Prop :=
  ∀ s : State, Settled s →
    (∀ l, LinkFree l s → permitted l .configure s = false → Refused l 0x3D s (exec (.saveStore l) s) .denied) ∧
    (∀ l, LinkFree l s → permitted l .configure s = true → s.store.save.isSome → Refused l 0x3D s (exec (.saveStore l) s) .busy) ∧
    (∀ l, LinkFree l s → permitted l .configure s = true → s.store.save = none →
      Answered l 0x3D s (exec (.saveStore l) s) .ok [] { s with
        store.image := none
        store.dirty := false
        store.save := some { snapshot := s.settings, stage := .erasing, timer := 400 } }) ∧
    (s.store.save = none → EndsIn s (exec .saveStageBegin s) s ∧ (∀ passed, EndsIn s (exec (.saveReport passed) s) s) ∧
      ∀ verified, EndsIn s (exec (.saveTimeout verified) s) s) ∧
    ∀ k, s.store.save = some k →
      (k.stage = .erasing → EndsIn s (exec .saveStageBegin s) { s with store.save := some { k with stage := .writing } }) ∧
      (k.stage = .writing → EndsIn s (exec .saveStageBegin s) { s with store.save := some { k with stage := .verifying } }) ∧
      EndsIn s (exec (.saveReport true) s) { s with
        store.save := none
        store.invalid := false
        store.image := some ⟨k.snapshot, imageCheck k.snapshot⟩ } ∧
      EndsIn s (exec (.saveReport false) s) { s with
        store.save := none
        store.invalid := true
        store.image := none } ∧
      ∀ verified, (k.timer ≠ 0 → EndsIn s (exec (.saveTimeout verified) s) s) ∧
        (k.timer = 0 → EndsIn s (exec (.saveTimeout verified) s) { s with
          store.save := none
          store.invalid := true
          store.image := if verified = true ∧ k.stage = .verifying then some ⟨k.snapshot, imageCheck k.snapshot⟩ else none })

/-! ## The Wash Journal -/

/-- CLOSEOUT, READ_JOURNAL and RELEASE_BANK (R155, R156, R158, R159) on a journal with one ACTIVE bank. A read returns up to 4 records,
of these as many whole ones as one frame holds (R194): that both bounds hold, and so where the cursor stands after a read, is the
model's reading (log entry 27), as is that the answer EMPTY carries nothing (log entry 47). -/
def Obligations.BanksAreClosedReadAndReleased : Prop :=
  ∀ (l : Fin 4) (s : State), Ready l s → OneActive s →
    (∀ b, (bankAt b s).state = .active →
      let o := exec (.closeout l) s
      let other := otherBank b
      let cars := (s.entry.table.filter fun c => c.bank == some b).length
      let state : BankState := if cars = 0 then .sealed else .draining
      let contents := put8 (bankStateCode state) ++ put8 cars ++ put8 (bankCode other)
      let closed := modifyBank other (fun _ => zeroedBank .active) (modifyBank b (fun k => { k with state := state }) s)
      let k := bankAt b s
      (permitted l .closeout s = false → Refused l 0x40 s o .denied) ∧
      (permitted l .closeout s = true → (bankAt other s).state ≠ .empty → Refused l 0x40 s o .bankBusy) ∧
      (permitted l .closeout s = true → (bankAt other s).state = .empty →
        Answered l 0x40 s o .ok (put8 (bankCode b) ++ contents) { closed with
          outbox := ⟨.journal, none, put8 1 ++ put8 (bankCode b) ++ contents⟩ ::
            (if cars = 0 then
              [⟨.journal, none, put8 2 ++ put8 (bankCode b) ++ (put16 k.written ++ put32 k.overflow ++ put64 k.revenue)⟩]
             else []) })) ∧
    (∀ code,
      let o (first : Option Nat) := exec (.readJournal l code first) s
      let p := exec (.releaseBank l code) s
      (permitted l .closeout s = false → (∀ first, Refused l 0x41 s (o first) .denied) ∧ Refused l 0x42 s p .denied) ∧
      (permitted l .closeout s = true →
        ((code = 0 ∨ 2 < code) → (∀ first, Refused l 0x41 s (o first) .unknown) ∧ Refused l 0x42 s p .unknown) ∧
        ∀ b, code = bankCode b →
          let k := bankAt b s
          let read (first start : Nat) : Prop :=
            let records := fittingRecords 4 recordRoom (k.records.drop (start - 1))
            let cursor := max k.cursor (start - 1 + records.length)
            let after := { k with
              cursor := cursor
              unread := k.written - cursor }
            Answered l 0x41 s (o (if first = 0 then none else some first)) .ok
              (put8 code ++ putHeader after ++ put16 start ++ putList putRecord records) (modifyBank b (fun _ => after) s)
          (k.state ≠ .sealed → (∀ first, Refused l 0x41 s (o first) .state) ∧ Refused l 0x42 s p .state) ∧
          (k.state = .sealed →
            (k.unread = 0 → Refused l 0x41 s (o none) .empty) ∧
            (k.unread ≠ 0 → read 0 (k.cursor + 1)) ∧
            (∀ f, (f < 1 ∨ 256 < f) → Refused l 0x41 s (o (some f)) .invalid) ∧
            (∀ f, 1 ≤ f → f ≤ 256 → k.written < f → Refused l 0x41 s (o (some f)) .empty) ∧
            (∀ f, 1 ≤ f → f ≤ 256 → f ≤ k.written → read f f) ∧
            Answered l 0x42 s p .ok (put16 k.unread) { modifyBank b (fun _ => zeroedBank .empty) s with
              outbox := [⟨.journal, none, put8 5 ++ put8 (bankCode b) ++ put16 k.unread⟩] })))

/-- A record submitted to a bank (R153, R154): stored under the next sequence while the bank holds fewer than 256, with FULL at 256;
counted without being stored beyond that, with OVERFLOW, and the first overflow alone tags the last record. A car removed is submitted
to its bank with the record of R148, its service results by R149, its outcome by R150 and the class applied of R72; a ticket with the
record of R151 to the ACTIVE bank, which counts it as voided. -/
def Obligations.RecordsAreStoredOrOverflow : Prop :=
  (∀ (c : Car) (kind : RemovalKind) (s : State),
    let gone := recomputeClass (unwatch c.number (purgeCar c.number
      { s with entry.table := s.entry.table.filter fun k => k.number != c.number }))
    let applied := c.applied.getD gone.tracker.commanded
    let after (u : State) := closeIfEmpty (evaluateRun u)
    ((c.phantom = true ∨ c.bank = none) → removeCar c kind s = after gone) ∧
    ∀ b, c.phantom = false → c.bank = some b → ∃ r : JournalRecord,
      removeCar c kind s = after (sealIfDrained b (submit b r gone)) ∧
      (r.ticket, r.car, r.lane, r.plan, r.extras, r.slot, r.total, r.tender)
        = (c.ticket, some c.number, c.lane, c.plan, c.extras, c.slot, c.total, c.tender) ∧
      (r.cls, r.tags, r.tagsLost, r.firstHalt) = (some applied, c.tags, c.tagsLost, c.firstHalt) ∧
      ((c.profile = .complete ∨ c.profile = .truncated) → r.length = some (8 * (c.samples.length - 1))) ∧
      ((c.profile = .waiting ∨ c.profile = .measuring ∨ c.profile = .absent) → r.length = none) ∧
      r.results.map (·.1) = c.services.map (·.service) ∧
      (∀ x ∈ r.results,
        let held (st : ArchStatus) := ∃ a, (layoutAt a s).kind ≠ .unused ∧ (layoutAt a s).service = x.1 ∧ c.statuses.get a = some st
        let unfinished := held .skipped ∨ held .pending ∨ held .active
        ((held .omitted ∨ ∀ st, ¬ held st) → x.2 = .omitted) ∧
        (¬ held .omitted → unfinished → x.2 = .skipped) ∧
        (¬ held .omitted → ¬ unfinished → held .done → x.2 = .done)) ∧
      (kind = .exit → (∀ x ∈ r.results, x.2 = .done) → r.outcome = .complete) ∧
      (kind = .exit → (∃ x ∈ r.results, x.2 ≠ .done) → r.outcome = .partly) ∧
      (kind = .pulled → r.outcome = .pulled) ∧ (kind = .cleared → r.outcome = .cleared) ∧
      (kind = .resetLost → r.outcome = .resetLost)) ∧
  (∀ (k : Ticket) (o : WashOutcome) (s : State),
    submitTicket k o s = submit (activeBank s)
      { sequence := 0, ticket := some k.number, car := none, lane := some k.lane, plan := some k.plan, extras := k.extras,
        slot := k.slot, total := k.total, tender := k.tender, outcome := o, length := none, cls := none, results := [], tags := [],
        tagsLost := 0, firstHalt := none }
      (modifyBank (activeBank s) (fun b => { b with voided := (b.voided + 1) % 4294967296 }) s)) ∧
  ∀ (b : BankId) (r : JournalRecord) (s : State),
    let k := bankAt b s
    let t := submit b r s
    let m := bankAt b t
    m.counts.get (outcomeIndex r.outcome) = (k.counts.get (outcomeIndex r.outcome) + 1) % 4294967296 ∧
    (∀ o, outcomeIndex o ≠ outcomeIndex r.outcome → m.counts.get (outcomeIndex o) = k.counts.get (outcomeIndex o)) ∧
    m.revenue = (k.revenue + r.total) % 18446744073709551616 ∧
    (m.state, m.cursor, m.admitted, m.voided) = (k.state, k.cursor, k.admitted, k.voided) ∧
    bankAt (otherBank b) t = bankAt (otherBank b) s ∧
    (k.written < 256 → m.records = k.records ++ [{ r with sequence := k.written + 1 }] ∧ m.written = k.written + 1 ∧
      m.unread = k.unread + 1 ∧ m.overflow = k.overflow ∧ m.overflowed = k.overflowed ∧
      t.outbox = s.outbox ++ (if k.written = 255 then [⟨.journal, none, put8 3 ++ put8 (bankCode b)⟩] else [])) ∧
    (256 ≤ k.written → m.written = k.written ∧ m.unread = k.unread ∧ m.overflow = (k.overflow + 1) % 4294967296 ∧
      m.overflowed = true ∧ (k.overflowed = true → m.records = k.records) ∧
      (∀ rest last, k.overflowed = false → k.records = rest ++ [last] →
        m.records = rest ++ [if last.tags.length < 4 then { last with tags := last.tags ++ [.overflow] }
          else { last with tagsLost := last.tagsLost + 1 }]) ∧
      t.outbox = s.outbox ++ [⟨.journal, none, put8 4 ++ put8 (bankCode b)
        ++ (put8 (outcomeCode r.outcome) ++ put32 r.total ++ putZero16 r.ticket ++ putZero16 r.car)⟩]) ∧
    (t.tracker, t.entry, t.sales, t.supervisor, t.links, t.settings, t.store)
      = (s.tracker, s.entry, s.sales, s.supervisor, s.links, s.settings, s.store)

/-! ## Rehearsals -/

/-- REHEARSE (R163, R164): the first test failed gives the answer; a REHEARSE that passes clears the ring, sets the record, builds the
phantom car from the test profile and the plan, and runs the conveyor in REHEARSAL. A run ends on the pitch that reaches the end
position (R168): the phantom is removed, its summary is made with the ending END, the tunnel is CLOSED and the run command re-evaluated;
a first cause abandons it (R169), with the summary of the phantom as it stood, the ending ABANDONED and the halt number. The summary
holds what R170 gives. The halt notice's sub-kind 1 and the order of its values are the model's reading (log entries 13 and 15), and so is
the width of n in the answer and the summary (log entry 42). -/
def Obligations.RehearseBuildsThePhantomCar : Prop :=
  (∀ (p : Pos) (s : State), s.supervisor.tunnel ≠ .rehearsal ∨ phantomCar s = none ∨ signedDiff p s.rehearsal.endPos < 0 →
    rehearsalPitch p s = s) ∧
  (∀ (c : Car) (s : State), s.supervisor.tunnel = .rehearsal → phantomCar s = some c →
    let summary (ending : RunEnding) (commanded : Nat) : Summary :=
      { phantom := c.number, profile := s.rehearsal.profile.getD 0, samples := c.samples.length, plan := s.rehearsal.plan.getD 0,
        traced := s.rehearsal.traced, ending := ending, cls := c.cls, applied := c.applied.getD commanded,
        statuses := (List.finRange 12).filterMap fun a => (c.statuses.get a).map fun st =>
          (a, if st = .pending ∨ st = .active then .skipped else st),
        tags := c.tags, tagsLost := c.tagsLost, written := s.rehearsal.written }
    (∀ p, 0 ≤ signedDiff p s.rehearsal.endPos →
      let gone := removeCar c .cleared s
      let m := summary .ended gone.tracker.commanded
      rehearsalPitch p s = evaluateRun { gone with
        rehearsal.running := false
        rehearsal.last := some m
        supervisor.tunnel := .closed
        outbox := s.outbox ++ [⟨.rehearsal, none, putSummary m⟩,
          ⟨.halt, none, put8 1 ++ put8 6 ++ put8 1 ++ put8 9 ++ put16 0⟩] }) ∧
    ∀ cause,
      let t := takeCause cause s
      let number := if 65535 ≤ s.supervisor.haltCounter then 1 else s.supervisor.haltCounter + 1
      let m := summary (.abandoned number) s.tracker.commanded
      t.rehearsal = { s.rehearsal with
        running := false
        last := some m } ∧
      ⟨.rehearsal, none, putSummary m⟩ ∈ t.outbox ∧ c.number ∉ carNumbers t ∧ t.journal = s.journal ∧ t.trace = s.trace ∧
      t.supervisor.tunnel = .halted ∧ t.supervisor.halt.map (·.resume) = some .closed) ∧
  ∀ (l : Fin 4) (profile plan : Nat) (traced : Option Nat) (s : State), Ready l s →
    let o := exec (.rehearse l profile plan traced) s
    let unknown := 2 ≤ profile ∨ 24 ≤ plan ∨ ∃ a ∈ traced, 12 ≤ a
    let notReady := s.store.unconfigured = true ∨ layoutValid s = false ∨ testProfile profile s = none
    let badTrace := ∃ a : Fin 12, traced = some a.val ∧ followingArch a s = false
    (permitted l .operate s = false → Refused l 0x48 s o .denied) ∧
    (permitted l .operate s = true →
      (unknown → Refused l 0x48 s o .unknown) ∧
      (¬ unknown → s.supervisor.tunnel ≠ .closed → Refused l 0x48 s o .state) ∧
      (¬ unknown → s.supervisor.tunnel = .closed → notReady → Refused l 0x48 s o .notReady) ∧
      (¬ unknown → s.supervisor.tunnel = .closed → ¬ notReady → badTrace → Refused l 0x48 s o .invalid) ∧
      (¬ unknown → s.supervisor.tunnel = .closed → ¬ notReady → ¬ badTrace → s.entry.table = [] → s.tracker.run = false →
        ∀ samples, testProfile profile s = some samples →
          let n := nextCarNumber s
          let endPos := s.tracker.pos + BitVec.ofNat 16 s.settings.site.exitOffset
          ∃ t c, t.entry.table = [c] ∧
            Answered l 0x48 s o .ok (put16 n ++ put8 c.cls ++ put8 samples.length ++ putPos endPos) t ∧
            (c.number, c.phantom, c.ticket, c.lane, c.slot, c.tender, c.extras, c.total, c.unpaid, c.bank)
              = (n, true, none, none, none, none, [], 0, false, none) ∧
            (c.plan, c.maxClass, c.services) = (some plan, (planRecord plan s).maxClass, (planRecord plan s).services) ∧
            (c.anchor, c.origin, c.profile, c.samples) = (s.tracker.pos, some s.tracker.pos, .complete, samples) ∧
            c.rearExtent = (s.settings.site.gaugeOffset : Int) + 8 * (samples.length - 1 : Nat) ∧
            (∀ a, c.statuses.get a = if (layoutAt a s).kind ≠ .unused ∧
              (∃ x ∈ (planRecord plan s).services, x.service = (layoutAt a s).service) then some .pending else none) ∧
            t.supervisor.tunnel = .rehearsal ∧ t.tracker.run = true ∧
            t.tracker.stall = some (s.settings.site.stallTime * 100) ∧ t.tracker.commanded = conveyorClass t ∧
            t.trace = [] ∧ t.rehearsal = { s.rehearsal with
              running := true
              profile := some profile
              plan := some plan
              traced := traced.bind archOf
              phantom := some n
              endPos := endPos
              written := 0 } ∧
            t.outbox = [⟨.halt, none, put8 1 ++ put8 1 ++ put8 6 ++ put8 5 ++ put16 0⟩]))

/-! ## The Station Links -/

/-- The receiver takes each byte by its state, and its timer's expiry, as R171 and R172 give (an expiry that finds the timer idle or
started again changes nothing, log entry 6); a complete frame on a free link is taken as the request it spells (R173, R174). -/
def Obligations.ReceiverTakesEachByte : Prop :=
  ∀ (l : Fin 4) (b : Byte) (s : State), Settled s →
    let o := exec (.receiveByte l b) s
    let k := linkAt l s
    let becomes (x : Link) := EndsIn s o (modifyLink l (fun _ => x) s)
    let error := { k with
      receiver := .hunt
      timer := none
      errors := min (k.errors + 1) 65535 }
    (k.receiver = .hunt → (b = 0xA5 → becomes { k with receiver := .length, timer := some 1 }) ∧ (b ≠ 0xA5 → EndsIn s o s)) ∧
    (k.receiver = .length →
      (1 ≤ b.toNat → b.toNat ≤ 120 → becomes { k with receiver := .body b.toNat [], timer := some 1 }) ∧
      ((b.toNat = 0 ∨ 120 < b.toNat) → becomes error)) ∧
    (∀ n got, k.receiver = .body n got →
      (got.length + 1 < n → becomes { k with receiver := .body n (got ++ [b]), timer := some 1 }) ∧
      (n ≤ got.length + 1 → becomes { k with receiver := .check n (got ++ [b]), timer := some 1 })) ∧
    (∀ n kind body, k.receiver = .check n (kind :: body) →
      let sum := (kind :: body).foldl (· + ·) (BitVec.ofNat 8 n) + b
      let hunting := modifyLink l (fun _ => { k with receiver := .hunt, timer := none }) s
      (sum ≠ 0 → becomes error) ∧
      (sum = 0 → LinkFree l s → ∀ i, decodeRequest l ⟨kind, body⟩ = .ok i → o = exec i hunting) ∧
      (sum = 0 → LinkFree l s → ∀ st, decodeRequest l ⟨kind, body⟩ = .error st → Answered l kind s o st [] hunting) ∧
      (sum = 0 → k.waiting.isSome → k.pendingFrame = none →
        becomes { k with receiver := .hunt, timer := none, pendingFrame := some ⟨kind, body⟩ }) ∧
      (sum = 0 → k.waiting.isSome → k.pendingFrame.isSome →
        becomes { k with receiver := .hunt, timer := none, overrun := true })) ∧
    (k.timer = some 0 → EndsIn s (exec (.interByteTimeout l) s) (modifyLink l (fun _ => { k with
      receiver := .hunt
      timer := none
      timeouts := min (k.timeouts + 1) 65535 }) s)) ∧
    (k.timer ≠ some 0 → EndsIn s (exec (.interByteTimeout l) s) s)

/-- A frame that arrives while a request is in progress becomes the pending frame, or, with one pending, is discarded with overrun; the
pending frame is taken as a request once none is in progress; a frame whose kind is no request's is answered UNKNOWN (R173, R174). -/
def Obligations.FramesWaitForTheRequestInProgress : Prop :=
  ∀ (l : Fin 4) (s : State), Settled s →
    (∀ i f, requestLink i = some l → encodeRequest i = some f → (linkAt l s).waiting.isSome →
      ((linkAt l s).pendingFrame = none →
        EndsIn s (exec i s) (modifyLink l (fun k => { k with pendingFrame := some f }) s)) ∧
      ((linkAt l s).pendingFrame.isSome → EndsIn s (exec i s) (modifyLink l (fun k => { k with overrun := true }) s))) ∧
    (∀ f, (linkAt l s).waiting = none → (linkAt l s).pendingFrame = some f →
      let emptied := modifyLink l (fun k => { k with pendingFrame := none }) s
      (∀ i, decodeRequest l f = .ok i → exec (.pendingFrameTaken l) s = exec i emptied) ∧
      (∀ st, decodeRequest l f = .error st → Answered l f.kind s (exec (.pendingFrameTaken l) s) st [] emptied)) ∧
    (((linkAt l s).waiting.isSome ∨ (linkAt l s).pendingFrame = none) → EndsIn s (exec (.pendingFrameTaken l) s) s) ∧
    (∀ kind body, isRequestKind kind = false → LinkFree l s →
      Refused l kind s (exec (.unknownKindRequest l kind body) s) .unknown)

/-- A response is placed whole if there is room, with its flags filled in and overrun and notices-lost cleared, and waits otherwise; a
waiting response is placed once the whole frame fits; bytes leave the queue in order (R175, R176). A notice is placed whole on each link
it is addressed to, or dropped there with notices-lost where there is no room or a response waits (R176). -/
def Obligations.ResponsesWaitAndNoticesAreDropped : Prop :=
  ∀ (l : Fin 4) (s : State),
    let k := linkAt l s
    (∀ r,
      let frame := frameBytes (r.kind + 0x80) (put8 (statusCode r.status) ++ [flagsByte k s] ++ r.body)
      let fits := k.queue.length + frame.length ≤ 256
      let placed := modifyLink l (fun _ => { k with
        queue := k.queue ++ frame
        waiting := none
        overrun := false
        noticesLost := false }) s
      (fits → offerResponse l r s = placed) ∧
      (¬ fits → offerResponse l r s = modifyLink l (fun _ => { k with waiting := some r }) s) ∧
      (Settled s → k.waiting = some r →
        (fits → EndsIn s (exec (.responsePlaced l) s) placed) ∧ (¬ fits → EndsIn s (exec (.responsePlaced l) s) s))) ∧
    (Settled s → k.waiting = none → EndsIn s (exec (.responsePlaced l) s) s) ∧
    (Settled s → EndsIn s (exec (.transmitByteSent l) s) (modifyLink l (fun _ => { k with queue := k.queue.drop 1 }) s)) ∧
    (∀ n : Notice,
      let frame := frameBytes (BitVec.ofNat 8 (0x60 + noticeIndex n.type)) n.body
      let toThis := inSet (accessAt l s).subscriptions (noticeIndex n.type) = true ∧ (n.target = none ∨ n.target = some l)
      let after := linkAt l (flush { s with outbox := [n] })
      (¬ toThis → after = k) ∧
      (toThis → k.waiting = none → k.queue.length + frame.length ≤ 256 → after = { k with queue := k.queue ++ frame }) ∧
      (toThis → (k.waiting.isSome ∨ 256 < k.queue.length + frame.length) → after = { k with noticesLost := true }))

/-! ## The Conveyor Tracker -/

/-- A forward step of the encoder (R1, R2, R12): P rises by 1 and H with it, the rollback flag clears once H − P is within the
allowance, the interval class joins the settle window of 16, and the new phase is the reference phase. The pitch is then delivered with
the new P and the settle class (R3): the station, each arch (its due entries of those that stood before the pitch, its load check, its
following step, R42) and Entry and Exit Control (wheels given up beyond 500 pitches, R86; the missing car, R95; a rehearsal's end, R168)
act once each, in the command's order and the rest in their listed order (log entry 7); then the causes raised are taken (R63) and the
arbiter evaluates with the gap as the control left it (R81). Which entries fire behind one inserted on the same pitch is the model's
reading (log entry 8). -/
def Obligations.ForwardPitchMovesTheConveyor : Prop :=
  (∀ order : List PitchBlock, (∀ b, b ≠ .supervisor → (completeOrder order).count b = 1) ∧
    ((order.filter (· ≠ .supervisor)).Nodup → ∃ rest, completeOrder order = order ++ rest ∧ .supervisor ∉ rest)) ∧
  ∀ (phase : Fin 4) (gauges : GaugeCodes) (order : List PitchBlock) (s : State), s.powered = true →
    phase = s.tracker.phase + 1 →
    (let pos := s.tracker.pos + 1
     let high := if 0 < signedDiff pos s.tracker.high then pos else s.tracker.high
     let window := if s.tracker.window.length < 16 then s.tracker.window ++ [s.tracker.interval]
       else (s.tracker.window ++ [s.tracker.interval]).drop 1
     let settle := window.foldl max s.tracker.commanded
     let moved : State := { s with tracker := { s.tracker with
       phase := phase
       pos := pos
       high := high
       rolledBack := s.tracker.rolledBack && decide ((s.settings.site.rollback : Int) < signedDiff high pos)
       window := window
       interval := s.tracker.commanded
       settle := settle
       stall := s.tracker.stall.map fun _ => s.settings.site.stallTime * 100 } }
     let wheel (w : Wheel) : Wheel := match w with
       | .front => .front
       | .rear mark => if 500 < signedDiff pos mark then .front else .rear mark
     let act (x : State × Bool) (b : PitchBlock) : State × Bool := match b with
       | .station => (stationPitch pos gauges x.1, x.2)
       | .arch a => (followStep a pos settle (loadCheck a (fireDue a pos (eventList a moved) x.1)), x.2)
       | .entryExit =>
         let u := rehearsalPitch pos (missingPitch pos { x.1 with
           entry.entryWheel := wheel x.1.entry.entryWheel
           entry.exitWheel := wheel x.1.entry.exitWheel })
         (u, gapSatisfied pos u)
       | .supervisor => (takeCauses x.1, x.2)
     let acted := (completeOrder order).foldl act (moved, false)
     EndsIn s (exec (.encoderLineChange phase gauges order) s) (arbitrateWith acted.2 (takeCauses acted.1))) ∧
    ∃ t, exec (.encoderLineChange phase gauges order) s = .next t ∧
      t.tracker.phase = phase ∧ t.tracker.pos = s.tracker.pos + 1 ∧
      (0 < signedDiff (s.tracker.pos + 1) s.tracker.high → t.tracker.high = s.tracker.pos + 1) ∧
      (signedDiff (s.tracker.pos + 1) s.tracker.high ≤ 0 → t.tracker.high = s.tracker.high) ∧
      (t.tracker.rolledBack = true ↔ s.tracker.rolledBack = true ∧
        (s.settings.site.rollback : Int) < signedDiff t.tracker.high (s.tracker.pos + 1)) ∧
      t.tracker.window = (if s.tracker.window.length < 16 then s.tracker.window ++ [s.tracker.interval]
        else (s.tracker.window ++ [s.tracker.interval]).drop 1) ∧
      t.settings = s.settings ∧ t.pending = s.pending

/-- A reverse step lowers P and raises CONVEYOR_REVERSE once for a rollback beyond the allowance (R4, R5); a skipped state raises
ENCODER_SLIP and moves nothing (R6); the stall timer that has run out is idle and raises CONVEYOR_STALL (R10); the roller-up pulse that
has run out leaves the actuator at rest (R196); an expiry that finds its timer idle, or started again by a pitch or an admission taken
first, changes nothing (R11; log entry 6). -/
def Obligations.ReverseSlipStallAndPulseEnd : Prop :=
  ∀ (gauges : GaugeCodes) (order : List PitchBlock) (s : State), Settled s →
    let o (phase : Fin 4) := exec (.encoderLineChange phase gauges order) s
    let back := { s with
      tracker.phase := s.tracker.phase - 1
      tracker.pos := s.tracker.pos - 1 }
    let beyond := (s.settings.site.rollback : Int) < signedDiff s.tracker.high (s.tracker.pos - 1)
    ((¬ beyond ∨ s.tracker.rolledBack = true) → EndsIn s (o (s.tracker.phase - 1)) back) ∧
    (beyond → s.tracker.rolledBack = false →
      EndsIn s (o (s.tracker.phase - 1)) (takeCause .conveyorReverse { back with tracker.rolledBack := true })) ∧
    EndsIn s (o (s.tracker.phase + 2)) (takeCause .encoderSlip { s with tracker.phase := s.tracker.phase + 2 }) ∧
    (s.tracker.stall = some 0 → EndsIn s (exec .conveyorStall s) (takeCause .conveyorStall { s with tracker.stall := none })) ∧
    (s.tracker.stall ≠ some 0 → EndsIn s (exec .conveyorStall s) s) ∧
    (s.entry.roller = some 0 → EndsIn s (exec .rollerPulseEnd s) { s with entry.roller := none }) ∧
    (s.entry.roller ≠ some 0 → EndsIn s (exec .rollerPulseEnd s) s)

/-! ## The treadles and the loops -/

/-- The entry treadle (R86, R87): a rear-wheel closing changes the wheel state alone; a front-wheel closing under a halt is counted, in
CLOSED is noticed, in REHEARSAL and on a full table is a cause; the wheel state becomes REAR at P. A presence loop changes and the
arbiter evaluates (R81); a treadle that opens changes its reading alone (R86). The halt notice's sub-kind 4, and that it reports the
tunnel state but carries no halt number, are the model's reading (log entries 13, 15 and 54). -/
def Obligations.EntryTreadleByTunnelState : Prop :=
  ∀ s : State, Settled s →
    let o := exec .entryTreadleClosing s
    let closed := { s with entry.entryClosed := true }
    let rear (x : State) := { x with entry.entryWheel := .rear s.tracker.pos }
    (∀ mark, s.entry.entryWheel = .rear mark → EndsIn s o { closed with entry.entryWheel := .front }) ∧
    (s.entry.entryWheel = .front →
      (∀ r, (s.supervisor.tunnel = .halted ∨ s.supervisor.tunnel = .restarting) → s.supervisor.halt = some r →
        EndsIn s o (rear { closed with supervisor.halt := some { r with entries := min (r.entries + 1) 65535 } })) ∧
      (s.supervisor.tunnel = .closed → EndsIn s o (rear { closed with outbox := [⟨.halt, none, put8 4 ++ put8 1⟩] })) ∧
      (s.supervisor.tunnel = .rehearsal → EndsIn s o (rear (takeCause .entryInRehearsal closed))) ∧
      ((s.supervisor.tunnel = .opened ∨ s.supervisor.tunnel = .closing) → 12 ≤ s.entry.table.length →
        EndsIn s o (rear (takeCause .tableFullEntry closed)))) ∧
    (∀ lane asserted, EndsIn s (exec (.presenceLoopChange lane asserted) s)
      (arbitrate { s with entry.loops := s.entry.loops.set lane.val asserted lane.isLt })) ∧
    EndsIn s (exec (.treadleOpening .entry) s) { s with entry.entryClosed := false } ∧
    EndsIn s (exec (.treadleOpening .exit) s) { s with entry.exitClosed := false }

/-- An admission (R77, R88 to R91): a front wheel on the entry treadle in OPEN or CLOSING with room in the table becomes the newest car,
on the called ticket, on the remembered ticket where the gap is satisfied, or unbidden; the station searches for it, its bank counts it,
the roller-up pulse starts, and neither a call nor a remembered ticket is left. -/
def Obligations.FrontWheelBecomesACar : Prop :=
  ∀ s : State, Settled s → CallLaw s → s.entry.entryWheel = .front →
    (s.supervisor.tunnel = .opened ∨ s.supervisor.tunnel = .closing) → s.entry.table.length < 12 →
    (∀ c ∈ s.entry.table, c.phantom = false) →
    let n := nextCarNumber s
    let b := activeBank s
    let called := s.entry.call.bind fun k => findTicket k.ticket s
    let graced := if s.entry.call = none ∧ gapNow s = true then s.entry.remembered.bind fun r => findTicket r.ticket s else none
    let sale := match called, graced with
      | some u, _ => saleOfTicket u
      | none, some u => saleOfTicket u
      | none, none => saleUnbidden s
    ∃ t c, exec .entryTreadleClosing s = .next t ∧ t.entry.table.getLast? = some c ∧
      carNumbers t = carNumbers s ++ [n] ∧ t.entry.roller = some 20 ∧ t.entry.entryWheel = .rear s.tracker.pos ∧
      t.station.watch = .searching n ∧ t.entry.remembered = none ∧ (s.entry.call = none ∨ called.isSome → t.entry.call = none) ∧
      (bankAt b t).admitted = ((bankAt b s).admitted + 1) % 4294967296 ∧
      (c.number, c.phantom, c.ticket, c.lane, c.plan, c.maxClass) = (n, false, sale.ticket, sale.lane, sale.plan, sale.maxClass) ∧
      (c.extras, c.slot, c.total, c.tender, c.services) = (sale.extras, sale.slot, sale.total, sale.tender, sale.services) ∧
      (c.bank, c.anchor, c.origin, c.profile, c.samples, c.rearExtent) = (some b, s.tracker.pos, none, .waiting, [], 918) ∧
      (c.cls, c.applied, c.inDomain, c.missing, c.unpaid) = (sale.maxClass, none, false, false, sale.ticket.isNone) ∧
      (sale.ticket = none → Tag.unbidden ∈ c.tags) ∧ (closeFollows s = true → Tag.closeFollow ∈ c.tags) ∧
      (∀ m ∈ sale.ticket, m ∉ t.sales.tickets.map (·.number)) ∧
      (closeFollows s = false →
        c.statuses = initialStatuses s.settings.layouts sale.services ∧ t.supervisor = s.supervisor) ∧
      (closeFollows s = true → t.supervisor.tunnel = .halted)

/-- The exit treadle (R86, R93, R94): a rear-wheel closing changes the wheel state alone; a front-wheel closing removes the oldest car
within its exit window, with EXIT_DURING_HALT under a halt; with none it is a stray exit, counted under a halt and a cause otherwise.
The oldest car that passes its window is flagged MISSING once, with its cause (R95). That a MISSING car is matched again once P has rolled
back into its window is the model's reading (log entry 53). -/
def Obligations.ExitTreadleMatchesTheOldestCar : Prop :=
  ∀ s : State, Settled s →
    let o := exec .exitTreadleClosing s
    let closed := { s with entry.exitClosed := true }
    let rear (x : State) := { x with entry.exitWheel := .rear s.tracker.pos }
    let halted := s.supervisor.tunnel = .halted ∨ s.supervisor.tunnel = .restarting
    let e := s.settings.site.exitOffset
    let tol := s.settings.site.exitTolerance
    let past (c : Car) := signedDiff s.tracker.pos c.anchor
    let matched (c : Car) := c.phantom = false ∧ (e : Int) - tol ≤ past c ∧ past c ≤ (e : Int) + tol
    (∀ mark, s.entry.exitWheel = .rear mark → EndsIn s o { closed with entry.exitWheel := .front }) ∧
    (s.entry.exitWheel = .front →
      (∀ c rest, s.entry.table = c :: rest → matched c →
        (¬ halted → EndsIn s o (rear (arbitrate (removeCar c .exit closed)))) ∧
        (halted → EndsIn s o (rear (arbitrate (removeCar (c.addTag .exitDuringHalt) .exit closed))))) ∧
      ((∀ c rest, s.entry.table = c :: rest → ¬ matched c) →
        (∀ r, halted → s.supervisor.halt = some r →
          EndsIn s o (rear { closed with supervisor.halt := some { r with strays := min (r.strays + 1) 65535 } })) ∧
        (¬ halted → EndsIn s o (rear (takeCause .strayExit closed))))) ∧
    (∀ c rest, s.entry.table = c :: rest →
      (c.phantom = false → c.missing = false → (e : Int) + tol < past c →
        missingPitch s.tracker.pos s = { s with
          entry.table := s.entry.table.map fun d => if d.number = c.number then { d with missing := true } else d
          raised := [.carMissing c.number] }) ∧
      ((c.phantom = true ∨ c.missing = true ∨ past c ≤ (e : Int) + tol) → missingPitch s.tracker.pos s = s))

/-! ## The Profile Station -/

/-- The station on a forward pitch (R20, R22 to R26): nothing before the search window and on a reading that is not present, the profile
origin on the first present one, ABSENT beyond it; samples at every eighth pitch, with no-returns held, until two in a row are below the
threshold or sample 95 is taken. -/
def Obligations.StationSearchesAndSamples : Prop :=
  ∀ (p : Pos) (g : GaugeCodes) (n : Nat) (c : Car) (s : State), findCar n s = some c →
    let d := signedDiff p c.anchor
    let offset := (s.settings.site.gaugeOffset : Int)
    let reads (mm : Nat) := s.settings.site.presence ≤ mm
    (s.station.watch = .searching n →
      (d < offset - 150 → stationPitch p g s = s) ∧
      (offset - 150 ≤ d → d ≤ offset + 16 →
        (g.top = 0 → stationPitch p g s = s) ∧
        (g.top ≠ 0 →
          let top := (s.settings.gauges.get 0).get ⟨g.top.toNat, g.top.isLt⟩
          (¬ reads top → stationPitch p g s = s) ∧
          (reads top → ∀ u, findCar n (stationPitch p g s) = some u →
            u.origin = some (p - BitVec.ofNat 16 s.settings.site.gaugeOffset) ∧ u.profile = .measuring ∧
            u.samples = [⟨top, (gaugeReading 1 g.left s).getD 4095, (gaugeReading 2 g.right s).getD 4095⟩] ∧
            (stationPitch p g s).station.watch = .sampling n p 1 false
              ⟨top, (gaugeReading 1 g.left s).getD 4095, (gaugeReading 2 g.right s).getD 4095⟩))) ∧
      (offset + 16 < d → ∀ u, findCar n (stationPitch p g s) = some u →
        u.profile = .absent ∧ u.origin = some c.anchor ∧ (stationPitch p g s).station.watch = .idle ∧
        (∀ a, followingArch a s = true → (c.statuses.get a).isSome → u.statuses.get a = some .skipped))) ∧
    (∀ first next absent last, s.station.watch = .sampling n first next absent last →
      let due := reached p (first + BitVec.ofNat 16 (8 * next)) = true
      let x : Sample := ⟨(gaugeReading 0 g.top s).getD last.top, (gaugeReading 1 g.left s).getD last.left,
        (gaugeReading 2 g.right s).getD last.right⟩
      let t := stationPitch p g s
      (¬ due → t = s) ∧
      (due → ∀ u, findCar n t = some u →
        (next < 95 → reads x.top → t.station.watch = .sampling n first (next + 1) false x ∧ u.samples = c.samples ++ [x] ∧
          u.profile = c.profile) ∧
        (next < 95 → ¬ reads x.top → absent = false → t.station.watch = .sampling n first (next + 1) true x ∧
          u.samples = c.samples ++ [x] ∧ u.profile = c.profile) ∧
        (¬ reads x.top → absent = true → t.station.watch = .idle ∧ u.profile = .complete ∧ u.samples = c.samples.dropLast) ∧
        (95 ≤ next → ¬ reads x.top → absent = false → t.station.watch = .idle ∧ u.profile = .complete ∧ u.samples = c.samples) ∧
        (95 ≤ next → reads x.top → t.station.watch = .idle ∧ u.profile = .truncated ∧ u.samples = c.samples ++ [x] ∧ u.cls = 1)))

/-! ## Starts -/

/-- Power-on reset and line reset leave the blocks alike but for the journal and the links (R15, R32, R54, R74, R98, R123, R143, R161,
R170, R183, R187, R191); an emergency stop asserted at the start makes halt 1 in CLOSED (R144); the loss of supply keeps the image alone
(R190), and a power-on reset after it starts as one that found the supply still there. What a part holds without supply (log entry 9), a
power-on reset of a part that has supply (19), the verification operand (18), the image as it is held with its check value (4) and the
load line and end position after a reset (24) are the model's choices. -/
def Obligations.StartsAndLossOfSupply : Prop :=
  ∀ (lines : LineLevels) (verified : Bool) (s : State),
    let image : Option StoreImage := match s.store.save with
      | none => s.store.image
      | some k => if verified = true ∧ k.stage = .verifying then some ⟨k.snapshot, imageCheck k.snapshot⟩ else none
    let started (t : State) : Prop :=
      t.powered = true ∧ t.pending = s.pending ∧
      t.tracker = { phase := lines.phase, pos := 0, high := 0, rolledBack := false, run := false, commanded := 1, interval := 1,
                    window := [], settle := 1, stall := none } ∧
      t.station = { watch := .idle, staging := Vector.replicate 2 none } ∧ t.trace = [] ∧ t.locks = [] ∧ t.strap = lines.strap ∧
      t.entry = { table := [], carCounter := 1, call := none, remembered := none, signals := Vector.replicate 3 false,
                  loops := lines.loops, entryClosed := lines.entryClosed, exitClosed := lines.exitClosed,
                  entryWheel := .front, exitWheel := .front, roller := none } ∧
      (t.sales.tickets, t.sales.laneOrders, t.sales.stalled, t.sales.ticketCounter, t.sales.sequenceCounter, t.sales.expired)
        = ([], Vector.replicate 3 [], [], 1, 0, Vector.replicate 4 []) ∧
      t.rehearsal = State.reset.rehearsal ∧ t.supervisor.last = none ∧ t.supervisor.estop = lines.estop ∧
      (lines.estop = false → t.supervisor.tunnel = .closed ∧ t.supervisor.halt = none ∧ t.supervisor.haltCounter = 0) ∧
      (lines.estop = true → t.supervisor.tunnel = .halted ∧ t.supervisor.halt = some
        { number := 1, first := { cause := .estop, position := 0 }, resume := .closed, further := [], furtherLost := 0,
          entries := 0, strays := 0, pulled := 0, refusals := 0 }) ∧
      (∀ i, image = some i → i.check = imageCheck i.settings → t.settings = i.settings ∧ t.store =
        { image := image, dirty := false, invalid := false, unconfigured := false, layoutPresent := true, save := none }) ∧
      ((∀ i, image = some i → i.check ≠ imageCheck i.settings) → t.settings = unconfiguredSettings ∧ t.store =
        { image := image, dirty := false, invalid := true, unconfigured := true, layoutPresent := false, save := none }) ∧
      (∀ a, archAt a t = Arch.goHome (layoutAt a t) t.settings.site { restingArch with
          command := (layoutAt a t).maximum
          outOfService := (layoutAt a t).initiallyOut
          homeClosed := lines.homeClosed.get a }) ∧
      ∀ l, (linkAt l t).receiver = .hunt ∧ (linkAt l t).timer = none ∧ (linkAt l t).waiting = none ∧
        (linkAt l t).pendingFrame = none ∧ (linkAt l t).overrun = false ∧ (linkAt l t).errors = 0 ∧ (linkAt l t).timeouts = 0
    (s.powered = true → ∃ t, exec (.powerOnReset lines verified) s = .next t ∧ started t ∧
      t.journal = { bankA := zeroedBank .active, bankB := zeroedBank .empty } ∧
      (lines.estop = false → ∀ l, (linkAt l t).queue = [] ∧ (linkAt l t).noticesLost = false)) ∧
    (s.powered = true → ∃ t, exec (.lineReset lines verified) s = .next t ∧ started t ∧
      t.journal = (loseTickets (removeAll .resetLost { s with
        links := Vector.replicate 4 restingLink
        raised := []
        outbox := [] })).journal) ∧
    (s.powered = true →
      let lost : State := { State.reset with
        store := { State.reset.store with image := image }
        powered := false
        pending := s.pending }
      exec (.lossOfSupply verified) s = .next lost ∧
        ∀ again, exec (.powerOnReset lines again) lost = exec (.powerOnReset lines verified) s)
end

