-- ==== Sys2Proof/Laws/State.lean ====
section
/-! SUPPORT. For each plain update of the state, one lemma for each field it leaves alone, true by unfolding. -/

namespace Sys2Proof.Machine

variable (s : State)

/-! ### modifyCar -/

@[simp] theorem modifyCar_tracker (n : Nat) (f : Car → Car) : (modifyCar n f s).tracker = s.tracker := rfl
@[simp] theorem modifyCar_station (n : Nat) (f : Car → Car) : (modifyCar n f s).station = s.station := rfl
@[simp] theorem modifyCar_arches (n : Nat) (f : Car → Car) : (modifyCar n f s).arches = s.arches := rfl
@[simp] theorem modifyCar_trace (n : Nat) (f : Car → Car) : (modifyCar n f s).trace = s.trace := rfl
@[simp] theorem modifyCar_carCounter (n : Nat) (f : Car → Car) : (modifyCar n f s).entry.carCounter = s.entry.carCounter := rfl
@[simp] theorem modifyCar_call (n : Nat) (f : Car → Car) : (modifyCar n f s).entry.call = s.entry.call := rfl
@[simp] theorem modifyCar_remembered (n : Nat) (f : Car → Car) : (modifyCar n f s).entry.remembered = s.entry.remembered := rfl
@[simp] theorem modifyCar_signals (n : Nat) (f : Car → Car) : (modifyCar n f s).entry.signals = s.entry.signals := rfl
@[simp] theorem modifyCar_loops (n : Nat) (f : Car → Car) : (modifyCar n f s).entry.loops = s.entry.loops := rfl
@[simp] theorem modifyCar_entryClosed (n : Nat) (f : Car → Car) : (modifyCar n f s).entry.entryClosed = s.entry.entryClosed := rfl
@[simp] theorem modifyCar_exitClosed (n : Nat) (f : Car → Car) : (modifyCar n f s).entry.exitClosed = s.entry.exitClosed := rfl
@[simp] theorem modifyCar_entryWheel (n : Nat) (f : Car → Car) : (modifyCar n f s).entry.entryWheel = s.entry.entryWheel := rfl
@[simp] theorem modifyCar_exitWheel (n : Nat) (f : Car → Car) : (modifyCar n f s).entry.exitWheel = s.entry.exitWheel := rfl
@[simp] theorem modifyCar_roller (n : Nat) (f : Car → Car) : (modifyCar n f s).entry.roller = s.entry.roller := rfl
@[simp] theorem modifyCar_sales (n : Nat) (f : Car → Car) : (modifyCar n f s).sales = s.sales := rfl
@[simp] theorem modifyCar_supervisor (n : Nat) (f : Car → Car) : (modifyCar n f s).supervisor = s.supervisor := rfl
@[simp] theorem modifyCar_journal (n : Nat) (f : Car → Car) : (modifyCar n f s).journal = s.journal := rfl
@[simp] theorem modifyCar_links (n : Nat) (f : Car → Car) : (modifyCar n f s).links = s.links := rfl
@[simp] theorem modifyCar_settings (n : Nat) (f : Car → Car) : (modifyCar n f s).settings = s.settings := rfl
@[simp] theorem modifyCar_store (n : Nat) (f : Car → Car) : (modifyCar n f s).store = s.store := rfl
@[simp] theorem modifyCar_locks (n : Nat) (f : Car → Car) : (modifyCar n f s).locks = s.locks := rfl
@[simp] theorem modifyCar_strap (n : Nat) (f : Car → Car) : (modifyCar n f s).strap = s.strap := rfl
@[simp] theorem modifyCar_rehearsal (n : Nat) (f : Car → Car) : (modifyCar n f s).rehearsal = s.rehearsal := rfl
@[simp] theorem modifyCar_powered (n : Nat) (f : Car → Car) : (modifyCar n f s).powered = s.powered := rfl
@[simp] theorem modifyCar_raised (n : Nat) (f : Car → Car) : (modifyCar n f s).raised = s.raised := rfl
@[simp] theorem modifyCar_outbox (n : Nat) (f : Car → Car) : (modifyCar n f s).outbox = s.outbox := rfl
@[simp] theorem modifyCar_pending (n : Nat) (f : Car → Car) : (modifyCar n f s).pending = s.pending := rfl

/-! ### modifyArch -/

@[simp] theorem modifyArch_tracker (a : Fin 12) (f : Arch → Arch) : (modifyArch a f s).tracker = s.tracker := rfl
@[simp] theorem modifyArch_station (a : Fin 12) (f : Arch → Arch) : (modifyArch a f s).station = s.station := rfl
@[simp] theorem modifyArch_trace (a : Fin 12) (f : Arch → Arch) : (modifyArch a f s).trace = s.trace := rfl
@[simp] theorem modifyArch_entry (a : Fin 12) (f : Arch → Arch) : (modifyArch a f s).entry = s.entry := rfl
@[simp] theorem modifyArch_sales (a : Fin 12) (f : Arch → Arch) : (modifyArch a f s).sales = s.sales := rfl
@[simp] theorem modifyArch_supervisor (a : Fin 12) (f : Arch → Arch) : (modifyArch a f s).supervisor = s.supervisor := rfl
@[simp] theorem modifyArch_journal (a : Fin 12) (f : Arch → Arch) : (modifyArch a f s).journal = s.journal := rfl
@[simp] theorem modifyArch_links (a : Fin 12) (f : Arch → Arch) : (modifyArch a f s).links = s.links := rfl
@[simp] theorem modifyArch_settings (a : Fin 12) (f : Arch → Arch) : (modifyArch a f s).settings = s.settings := rfl
@[simp] theorem modifyArch_store (a : Fin 12) (f : Arch → Arch) : (modifyArch a f s).store = s.store := rfl
@[simp] theorem modifyArch_locks (a : Fin 12) (f : Arch → Arch) : (modifyArch a f s).locks = s.locks := rfl
@[simp] theorem modifyArch_strap (a : Fin 12) (f : Arch → Arch) : (modifyArch a f s).strap = s.strap := rfl
@[simp] theorem modifyArch_rehearsal (a : Fin 12) (f : Arch → Arch) : (modifyArch a f s).rehearsal = s.rehearsal := rfl
@[simp] theorem modifyArch_powered (a : Fin 12) (f : Arch → Arch) : (modifyArch a f s).powered = s.powered := rfl
@[simp] theorem modifyArch_raised (a : Fin 12) (f : Arch → Arch) : (modifyArch a f s).raised = s.raised := rfl
@[simp] theorem modifyArch_outbox (a : Fin 12) (f : Arch → Arch) : (modifyArch a f s).outbox = s.outbox := rfl
@[simp] theorem modifyArch_pending (a : Fin 12) (f : Arch → Arch) : (modifyArch a f s).pending = s.pending := rfl

/-! ### modifyTicket -/

@[simp] theorem modifyTicket_tracker (n : Nat) (f : Ticket → Ticket) : (modifyTicket n f s).tracker = s.tracker := rfl
@[simp] theorem modifyTicket_station (n : Nat) (f : Ticket → Ticket) : (modifyTicket n f s).station = s.station := rfl
@[simp] theorem modifyTicket_arches (n : Nat) (f : Ticket → Ticket) : (modifyTicket n f s).arches = s.arches := rfl
@[simp] theorem modifyTicket_trace (n : Nat) (f : Ticket → Ticket) : (modifyTicket n f s).trace = s.trace := rfl
@[simp] theorem modifyTicket_entry (n : Nat) (f : Ticket → Ticket) : (modifyTicket n f s).entry = s.entry := rfl
@[simp] theorem modifyTicket_laneOrders (n : Nat) (f : Ticket → Ticket) : (modifyTicket n f s).sales.laneOrders = s.sales.laneOrders := rfl
@[simp] theorem modifyTicket_stalled (n : Nat) (f : Ticket → Ticket) : (modifyTicket n f s).sales.stalled = s.sales.stalled := rfl
@[simp] theorem modifyTicket_ticketCounter (n : Nat) (f : Ticket → Ticket) : (modifyTicket n f s).sales.ticketCounter = s.sales.ticketCounter := rfl
@[simp] theorem modifyTicket_sequenceCounter (n : Nat) (f : Ticket → Ticket) : (modifyTicket n f s).sales.sequenceCounter = s.sales.sequenceCounter := rfl
@[simp] theorem modifyTicket_expired (n : Nat) (f : Ticket → Ticket) : (modifyTicket n f s).sales.expired = s.sales.expired := rfl
@[simp] theorem modifyTicket_planAvailable (n : Nat) (f : Ticket → Ticket) : (modifyTicket n f s).sales.planAvailable = s.sales.planAvailable := rfl
@[simp] theorem modifyTicket_extraAvailable (n : Nat) (f : Ticket → Ticket) : (modifyTicket n f s).sales.extraAvailable = s.sales.extraAvailable := rfl
@[simp] theorem modifyTicket_supervisor (n : Nat) (f : Ticket → Ticket) : (modifyTicket n f s).supervisor = s.supervisor := rfl
@[simp] theorem modifyTicket_journal (n : Nat) (f : Ticket → Ticket) : (modifyTicket n f s).journal = s.journal := rfl
@[simp] theorem modifyTicket_links (n : Nat) (f : Ticket → Ticket) : (modifyTicket n f s).links = s.links := rfl
@[simp] theorem modifyTicket_settings (n : Nat) (f : Ticket → Ticket) : (modifyTicket n f s).settings = s.settings := rfl
@[simp] theorem modifyTicket_store (n : Nat) (f : Ticket → Ticket) : (modifyTicket n f s).store = s.store := rfl
@[simp] theorem modifyTicket_locks (n : Nat) (f : Ticket → Ticket) : (modifyTicket n f s).locks = s.locks := rfl
@[simp] theorem modifyTicket_strap (n : Nat) (f : Ticket → Ticket) : (modifyTicket n f s).strap = s.strap := rfl
@[simp] theorem modifyTicket_rehearsal (n : Nat) (f : Ticket → Ticket) : (modifyTicket n f s).rehearsal = s.rehearsal := rfl
@[simp] theorem modifyTicket_powered (n : Nat) (f : Ticket → Ticket) : (modifyTicket n f s).powered = s.powered := rfl
@[simp] theorem modifyTicket_raised (n : Nat) (f : Ticket → Ticket) : (modifyTicket n f s).raised = s.raised := rfl
@[simp] theorem modifyTicket_outbox (n : Nat) (f : Ticket → Ticket) : (modifyTicket n f s).outbox = s.outbox := rfl
@[simp] theorem modifyTicket_pending (n : Nat) (f : Ticket → Ticket) : (modifyTicket n f s).pending = s.pending := rfl

/-! ### modifyLink -/

@[simp] theorem modifyLink_tracker (l : Fin 4) (f : Link → Link) : (modifyLink l f s).tracker = s.tracker := rfl
@[simp] theorem modifyLink_station (l : Fin 4) (f : Link → Link) : (modifyLink l f s).station = s.station := rfl
@[simp] theorem modifyLink_arches (l : Fin 4) (f : Link → Link) : (modifyLink l f s).arches = s.arches := rfl
@[simp] theorem modifyLink_trace (l : Fin 4) (f : Link → Link) : (modifyLink l f s).trace = s.trace := rfl
@[simp] theorem modifyLink_entry (l : Fin 4) (f : Link → Link) : (modifyLink l f s).entry = s.entry := rfl
@[simp] theorem modifyLink_sales (l : Fin 4) (f : Link → Link) : (modifyLink l f s).sales = s.sales := rfl
@[simp] theorem modifyLink_supervisor (l : Fin 4) (f : Link → Link) : (modifyLink l f s).supervisor = s.supervisor := rfl
@[simp] theorem modifyLink_journal (l : Fin 4) (f : Link → Link) : (modifyLink l f s).journal = s.journal := rfl
@[simp] theorem modifyLink_settings (l : Fin 4) (f : Link → Link) : (modifyLink l f s).settings = s.settings := rfl
@[simp] theorem modifyLink_store (l : Fin 4) (f : Link → Link) : (modifyLink l f s).store = s.store := rfl
@[simp] theorem modifyLink_locks (l : Fin 4) (f : Link → Link) : (modifyLink l f s).locks = s.locks := rfl
@[simp] theorem modifyLink_strap (l : Fin 4) (f : Link → Link) : (modifyLink l f s).strap = s.strap := rfl
@[simp] theorem modifyLink_rehearsal (l : Fin 4) (f : Link → Link) : (modifyLink l f s).rehearsal = s.rehearsal := rfl
@[simp] theorem modifyLink_powered (l : Fin 4) (f : Link → Link) : (modifyLink l f s).powered = s.powered := rfl
@[simp] theorem modifyLink_raised (l : Fin 4) (f : Link → Link) : (modifyLink l f s).raised = s.raised := rfl
@[simp] theorem modifyLink_outbox (l : Fin 4) (f : Link → Link) : (modifyLink l f s).outbox = s.outbox := rfl
@[simp] theorem modifyLink_pending (l : Fin 4) (f : Link → Link) : (modifyLink l f s).pending = s.pending := rfl

/-! ### raise -/

@[simp] theorem raise_tracker (c : Cause) : (raise c s).tracker = s.tracker := rfl
@[simp] theorem raise_station (c : Cause) : (raise c s).station = s.station := rfl
@[simp] theorem raise_arches (c : Cause) : (raise c s).arches = s.arches := rfl
@[simp] theorem raise_trace (c : Cause) : (raise c s).trace = s.trace := rfl
@[simp] theorem raise_entry (c : Cause) : (raise c s).entry = s.entry := rfl
@[simp] theorem raise_sales (c : Cause) : (raise c s).sales = s.sales := rfl
@[simp] theorem raise_supervisor (c : Cause) : (raise c s).supervisor = s.supervisor := rfl
@[simp] theorem raise_journal (c : Cause) : (raise c s).journal = s.journal := rfl
@[simp] theorem raise_links (c : Cause) : (raise c s).links = s.links := rfl
@[simp] theorem raise_settings (c : Cause) : (raise c s).settings = s.settings := rfl
@[simp] theorem raise_store (c : Cause) : (raise c s).store = s.store := rfl
@[simp] theorem raise_locks (c : Cause) : (raise c s).locks = s.locks := rfl
@[simp] theorem raise_strap (c : Cause) : (raise c s).strap = s.strap := rfl
@[simp] theorem raise_rehearsal (c : Cause) : (raise c s).rehearsal = s.rehearsal := rfl
@[simp] theorem raise_powered (c : Cause) : (raise c s).powered = s.powered := rfl
@[simp] theorem raise_outbox (c : Cause) : (raise c s).outbox = s.outbox := rfl
@[simp] theorem raise_pending (c : Cause) : (raise c s).pending = s.pending := rfl

/-! ### notify -/

@[simp] theorem notify_tracker (t : NoticeType) (b : List Byte) : (notify t b s).tracker = s.tracker := rfl
@[simp] theorem notify_station (t : NoticeType) (b : List Byte) : (notify t b s).station = s.station := rfl
@[simp] theorem notify_arches (t : NoticeType) (b : List Byte) : (notify t b s).arches = s.arches := rfl
@[simp] theorem notify_trace (t : NoticeType) (b : List Byte) : (notify t b s).trace = s.trace := rfl
@[simp] theorem notify_entry (t : NoticeType) (b : List Byte) : (notify t b s).entry = s.entry := rfl
@[simp] theorem notify_sales (t : NoticeType) (b : List Byte) : (notify t b s).sales = s.sales := rfl
@[simp] theorem notify_supervisor (t : NoticeType) (b : List Byte) : (notify t b s).supervisor = s.supervisor := rfl
@[simp] theorem notify_journal (t : NoticeType) (b : List Byte) : (notify t b s).journal = s.journal := rfl
@[simp] theorem notify_links (t : NoticeType) (b : List Byte) : (notify t b s).links = s.links := rfl
@[simp] theorem notify_settings (t : NoticeType) (b : List Byte) : (notify t b s).settings = s.settings := rfl
@[simp] theorem notify_store (t : NoticeType) (b : List Byte) : (notify t b s).store = s.store := rfl
@[simp] theorem notify_locks (t : NoticeType) (b : List Byte) : (notify t b s).locks = s.locks := rfl
@[simp] theorem notify_strap (t : NoticeType) (b : List Byte) : (notify t b s).strap = s.strap := rfl
@[simp] theorem notify_rehearsal (t : NoticeType) (b : List Byte) : (notify t b s).rehearsal = s.rehearsal := rfl
@[simp] theorem notify_powered (t : NoticeType) (b : List Byte) : (notify t b s).powered = s.powered := rfl
@[simp] theorem notify_raised (t : NoticeType) (b : List Byte) : (notify t b s).raised = s.raised := rfl
@[simp] theorem notify_pending (t : NoticeType) (b : List Byte) : (notify t b s).pending = s.pending := rfl

/-! ### notifyLink -/

@[simp] theorem notifyLink_tracker (l : Fin 4) (b : List Byte) : (notifyLink l b s).tracker = s.tracker := rfl
@[simp] theorem notifyLink_station (l : Fin 4) (b : List Byte) : (notifyLink l b s).station = s.station := rfl
@[simp] theorem notifyLink_arches (l : Fin 4) (b : List Byte) : (notifyLink l b s).arches = s.arches := rfl
@[simp] theorem notifyLink_trace (l : Fin 4) (b : List Byte) : (notifyLink l b s).trace = s.trace := rfl
@[simp] theorem notifyLink_entry (l : Fin 4) (b : List Byte) : (notifyLink l b s).entry = s.entry := rfl
@[simp] theorem notifyLink_sales (l : Fin 4) (b : List Byte) : (notifyLink l b s).sales = s.sales := rfl
@[simp] theorem notifyLink_supervisor (l : Fin 4) (b : List Byte) : (notifyLink l b s).supervisor = s.supervisor := rfl
@[simp] theorem notifyLink_journal (l : Fin 4) (b : List Byte) : (notifyLink l b s).journal = s.journal := rfl
@[simp] theorem notifyLink_links (l : Fin 4) (b : List Byte) : (notifyLink l b s).links = s.links := rfl
@[simp] theorem notifyLink_settings (l : Fin 4) (b : List Byte) : (notifyLink l b s).settings = s.settings := rfl
@[simp] theorem notifyLink_store (l : Fin 4) (b : List Byte) : (notifyLink l b s).store = s.store := rfl
@[simp] theorem notifyLink_locks (l : Fin 4) (b : List Byte) : (notifyLink l b s).locks = s.locks := rfl
@[simp] theorem notifyLink_strap (l : Fin 4) (b : List Byte) : (notifyLink l b s).strap = s.strap := rfl
@[simp] theorem notifyLink_rehearsal (l : Fin 4) (b : List Byte) : (notifyLink l b s).rehearsal = s.rehearsal := rfl
@[simp] theorem notifyLink_powered (l : Fin 4) (b : List Byte) : (notifyLink l b s).powered = s.powered := rfl
@[simp] theorem notifyLink_raised (l : Fin 4) (b : List Byte) : (notifyLink l b s).raised = s.raised := rfl
@[simp] theorem notifyLink_pending (l : Fin 4) (b : List Byte) : (notifyLink l b s).pending = s.pending := rfl

/-! ### markDirty -/

@[simp] theorem markDirty_tracker : (markDirty s).tracker = s.tracker := rfl
@[simp] theorem markDirty_station : (markDirty s).station = s.station := rfl
@[simp] theorem markDirty_arches : (markDirty s).arches = s.arches := rfl
@[simp] theorem markDirty_trace : (markDirty s).trace = s.trace := rfl
@[simp] theorem markDirty_entry : (markDirty s).entry = s.entry := rfl
@[simp] theorem markDirty_sales : (markDirty s).sales = s.sales := rfl
@[simp] theorem markDirty_supervisor : (markDirty s).supervisor = s.supervisor := rfl
@[simp] theorem markDirty_journal : (markDirty s).journal = s.journal := rfl
@[simp] theorem markDirty_links : (markDirty s).links = s.links := rfl
@[simp] theorem markDirty_settings : (markDirty s).settings = s.settings := rfl
@[simp] theorem markDirty_locks : (markDirty s).locks = s.locks := rfl
@[simp] theorem markDirty_strap : (markDirty s).strap = s.strap := rfl
@[simp] theorem markDirty_rehearsal : (markDirty s).rehearsal = s.rehearsal := rfl
@[simp] theorem markDirty_powered : (markDirty s).powered = s.powered := rfl
@[simp] theorem markDirty_raised : (markDirty s).raised = s.raised := rfl
@[simp] theorem markDirty_outbox : (markDirty s).outbox = s.outbox := rfl
@[simp] theorem markDirty_pending : (markDirty s).pending = s.pending := rfl

/-! ### watching -/

@[simp] theorem watching_tracker (w : Watch) : (watching w s).tracker = s.tracker := rfl
@[simp] theorem watching_arches (w : Watch) : (watching w s).arches = s.arches := rfl
@[simp] theorem watching_trace (w : Watch) : (watching w s).trace = s.trace := rfl
@[simp] theorem watching_entry (w : Watch) : (watching w s).entry = s.entry := rfl
@[simp] theorem watching_sales (w : Watch) : (watching w s).sales = s.sales := rfl
@[simp] theorem watching_supervisor (w : Watch) : (watching w s).supervisor = s.supervisor := rfl
@[simp] theorem watching_journal (w : Watch) : (watching w s).journal = s.journal := rfl
@[simp] theorem watching_links (w : Watch) : (watching w s).links = s.links := rfl
@[simp] theorem watching_settings (w : Watch) : (watching w s).settings = s.settings := rfl
@[simp] theorem watching_store (w : Watch) : (watching w s).store = s.store := rfl
@[simp] theorem watching_locks (w : Watch) : (watching w s).locks = s.locks := rfl
@[simp] theorem watching_strap (w : Watch) : (watching w s).strap = s.strap := rfl
@[simp] theorem watching_rehearsal (w : Watch) : (watching w s).rehearsal = s.rehearsal := rfl
@[simp] theorem watching_powered (w : Watch) : (watching w s).powered = s.powered := rfl
@[simp] theorem watching_raised (w : Watch) : (watching w s).raised = s.raised := rfl
@[simp] theorem watching_outbox (w : Watch) : (watching w s).outbox = s.outbox := rfl
@[simp] theorem watching_pending (w : Watch) : (watching w s).pending = s.pending := rfl

/-! ### forget -/

@[simp] theorem forget_tracker : (forget s).tracker = s.tracker := rfl
@[simp] theorem forget_station : (forget s).station = s.station := rfl
@[simp] theorem forget_arches : (forget s).arches = s.arches := rfl
@[simp] theorem forget_trace : (forget s).trace = s.trace := rfl
@[simp] theorem forget_table : (forget s).entry.table = s.entry.table := rfl
@[simp] theorem forget_carCounter : (forget s).entry.carCounter = s.entry.carCounter := rfl
@[simp] theorem forget_call : (forget s).entry.call = s.entry.call := rfl
@[simp] theorem forget_signals : (forget s).entry.signals = s.entry.signals := rfl
@[simp] theorem forget_loops : (forget s).entry.loops = s.entry.loops := rfl
@[simp] theorem forget_entryClosed : (forget s).entry.entryClosed = s.entry.entryClosed := rfl
@[simp] theorem forget_exitClosed : (forget s).entry.exitClosed = s.entry.exitClosed := rfl
@[simp] theorem forget_entryWheel : (forget s).entry.entryWheel = s.entry.entryWheel := rfl
@[simp] theorem forget_exitWheel : (forget s).entry.exitWheel = s.entry.exitWheel := rfl
@[simp] theorem forget_roller : (forget s).entry.roller = s.entry.roller := rfl
@[simp] theorem forget_sales : (forget s).sales = s.sales := rfl
@[simp] theorem forget_supervisor : (forget s).supervisor = s.supervisor := rfl
@[simp] theorem forget_journal : (forget s).journal = s.journal := rfl
@[simp] theorem forget_links : (forget s).links = s.links := rfl
@[simp] theorem forget_settings : (forget s).settings = s.settings := rfl
@[simp] theorem forget_store : (forget s).store = s.store := rfl
@[simp] theorem forget_locks : (forget s).locks = s.locks := rfl
@[simp] theorem forget_strap : (forget s).strap = s.strap := rfl
@[simp] theorem forget_rehearsal : (forget s).rehearsal = s.rehearsal := rfl
@[simp] theorem forget_powered : (forget s).powered = s.powered := rfl
@[simp] theorem forget_raised : (forget s).raised = s.raised := rfl
@[simp] theorem forget_outbox : (forget s).outbox = s.outbox := rfl
@[simp] theorem forget_pending : (forget s).pending = s.pending := rfl

/-! ### setSignal -/

@[simp] theorem setSignal_tracker (l : Fin 3) (go : Bool) : (setSignal l go s).tracker = s.tracker := rfl
@[simp] theorem setSignal_station (l : Fin 3) (go : Bool) : (setSignal l go s).station = s.station := rfl
@[simp] theorem setSignal_arches (l : Fin 3) (go : Bool) : (setSignal l go s).arches = s.arches := rfl
@[simp] theorem setSignal_trace (l : Fin 3) (go : Bool) : (setSignal l go s).trace = s.trace := rfl
@[simp] theorem setSignal_table (l : Fin 3) (go : Bool) : (setSignal l go s).entry.table = s.entry.table := rfl
@[simp] theorem setSignal_carCounter (l : Fin 3) (go : Bool) : (setSignal l go s).entry.carCounter = s.entry.carCounter := rfl
@[simp] theorem setSignal_call (l : Fin 3) (go : Bool) : (setSignal l go s).entry.call = s.entry.call := rfl
@[simp] theorem setSignal_remembered (l : Fin 3) (go : Bool) : (setSignal l go s).entry.remembered = s.entry.remembered := rfl
@[simp] theorem setSignal_loops (l : Fin 3) (go : Bool) : (setSignal l go s).entry.loops = s.entry.loops := rfl
@[simp] theorem setSignal_entryClosed (l : Fin 3) (go : Bool) : (setSignal l go s).entry.entryClosed = s.entry.entryClosed := rfl
@[simp] theorem setSignal_exitClosed (l : Fin 3) (go : Bool) : (setSignal l go s).entry.exitClosed = s.entry.exitClosed := rfl
@[simp] theorem setSignal_entryWheel (l : Fin 3) (go : Bool) : (setSignal l go s).entry.entryWheel = s.entry.entryWheel := rfl
@[simp] theorem setSignal_exitWheel (l : Fin 3) (go : Bool) : (setSignal l go s).entry.exitWheel = s.entry.exitWheel := rfl
@[simp] theorem setSignal_roller (l : Fin 3) (go : Bool) : (setSignal l go s).entry.roller = s.entry.roller := rfl
@[simp] theorem setSignal_sales (l : Fin 3) (go : Bool) : (setSignal l go s).sales = s.sales := rfl
@[simp] theorem setSignal_supervisor (l : Fin 3) (go : Bool) : (setSignal l go s).supervisor = s.supervisor := rfl
@[simp] theorem setSignal_journal (l : Fin 3) (go : Bool) : (setSignal l go s).journal = s.journal := rfl
@[simp] theorem setSignal_links (l : Fin 3) (go : Bool) : (setSignal l go s).links = s.links := rfl
@[simp] theorem setSignal_settings (l : Fin 3) (go : Bool) : (setSignal l go s).settings = s.settings := rfl
@[simp] theorem setSignal_store (l : Fin 3) (go : Bool) : (setSignal l go s).store = s.store := rfl
@[simp] theorem setSignal_locks (l : Fin 3) (go : Bool) : (setSignal l go s).locks = s.locks := rfl
@[simp] theorem setSignal_strap (l : Fin 3) (go : Bool) : (setSignal l go s).strap = s.strap := rfl
@[simp] theorem setSignal_rehearsal (l : Fin 3) (go : Bool) : (setSignal l go s).rehearsal = s.rehearsal := rfl
@[simp] theorem setSignal_powered (l : Fin 3) (go : Bool) : (setSignal l go s).powered = s.powered := rfl
@[simp] theorem setSignal_raised (l : Fin 3) (go : Bool) : (setSignal l go s).raised = s.raised := rfl
@[simp] theorem setSignal_outbox (l : Fin 3) (go : Bool) : (setSignal l go s).outbox = s.outbox := rfl
@[simp] theorem setSignal_pending (l : Fin 3) (go : Bool) : (setSignal l go s).pending = s.pending := rfl

/-! ### modifyHalt -/

@[simp] theorem modifyHalt_tracker (f : HaltRecord → HaltRecord) : (modifyHalt f s).tracker = s.tracker := rfl
@[simp] theorem modifyHalt_station (f : HaltRecord → HaltRecord) : (modifyHalt f s).station = s.station := rfl
@[simp] theorem modifyHalt_arches (f : HaltRecord → HaltRecord) : (modifyHalt f s).arches = s.arches := rfl
@[simp] theorem modifyHalt_trace (f : HaltRecord → HaltRecord) : (modifyHalt f s).trace = s.trace := rfl
@[simp] theorem modifyHalt_entry (f : HaltRecord → HaltRecord) : (modifyHalt f s).entry = s.entry := rfl
@[simp] theorem modifyHalt_sales (f : HaltRecord → HaltRecord) : (modifyHalt f s).sales = s.sales := rfl
@[simp] theorem modifyHalt_tunnel (f : HaltRecord → HaltRecord) : (modifyHalt f s).supervisor.tunnel = s.supervisor.tunnel := rfl
@[simp] theorem modifyHalt_last (f : HaltRecord → HaltRecord) : (modifyHalt f s).supervisor.last = s.supervisor.last := rfl
@[simp] theorem modifyHalt_haltCounter (f : HaltRecord → HaltRecord) : (modifyHalt f s).supervisor.haltCounter = s.supervisor.haltCounter := rfl
@[simp] theorem modifyHalt_restart (f : HaltRecord → HaltRecord) : (modifyHalt f s).supervisor.restart = s.supervisor.restart := rfl
@[simp] theorem modifyHalt_estop (f : HaltRecord → HaltRecord) : (modifyHalt f s).supervisor.estop = s.supervisor.estop := rfl
@[simp] theorem modifyHalt_journal (f : HaltRecord → HaltRecord) : (modifyHalt f s).journal = s.journal := rfl
@[simp] theorem modifyHalt_links (f : HaltRecord → HaltRecord) : (modifyHalt f s).links = s.links := rfl
@[simp] theorem modifyHalt_settings (f : HaltRecord → HaltRecord) : (modifyHalt f s).settings = s.settings := rfl
@[simp] theorem modifyHalt_store (f : HaltRecord → HaltRecord) : (modifyHalt f s).store = s.store := rfl
@[simp] theorem modifyHalt_locks (f : HaltRecord → HaltRecord) : (modifyHalt f s).locks = s.locks := rfl
@[simp] theorem modifyHalt_strap (f : HaltRecord → HaltRecord) : (modifyHalt f s).strap = s.strap := rfl
@[simp] theorem modifyHalt_rehearsal (f : HaltRecord → HaltRecord) : (modifyHalt f s).rehearsal = s.rehearsal := rfl
@[simp] theorem modifyHalt_powered (f : HaltRecord → HaltRecord) : (modifyHalt f s).powered = s.powered := rfl
@[simp] theorem modifyHalt_raised (f : HaltRecord → HaltRecord) : (modifyHalt f s).raised = s.raised := rfl
@[simp] theorem modifyHalt_outbox (f : HaltRecord → HaltRecord) : (modifyHalt f s).outbox = s.outbox := rfl
@[simp] theorem modifyHalt_pending (f : HaltRecord → HaltRecord) : (modifyHalt f s).pending = s.pending := rfl

/-! ### handDown -/

@[simp] theorem handDown_station (c : Nat) : (handDown c s).station = s.station := rfl
@[simp] theorem handDown_arches (c : Nat) : (handDown c s).arches = s.arches := rfl
@[simp] theorem handDown_trace (c : Nat) : (handDown c s).trace = s.trace := rfl
@[simp] theorem handDown_entry (c : Nat) : (handDown c s).entry = s.entry := rfl
@[simp] theorem handDown_sales (c : Nat) : (handDown c s).sales = s.sales := rfl
@[simp] theorem handDown_supervisor (c : Nat) : (handDown c s).supervisor = s.supervisor := rfl
@[simp] theorem handDown_journal (c : Nat) : (handDown c s).journal = s.journal := rfl
@[simp] theorem handDown_links (c : Nat) : (handDown c s).links = s.links := rfl
@[simp] theorem handDown_settings (c : Nat) : (handDown c s).settings = s.settings := rfl
@[simp] theorem handDown_store (c : Nat) : (handDown c s).store = s.store := rfl
@[simp] theorem handDown_locks (c : Nat) : (handDown c s).locks = s.locks := rfl
@[simp] theorem handDown_strap (c : Nat) : (handDown c s).strap = s.strap := rfl
@[simp] theorem handDown_rehearsal (c : Nat) : (handDown c s).rehearsal = s.rehearsal := rfl
@[simp] theorem handDown_powered (c : Nat) : (handDown c s).powered = s.powered := rfl
@[simp] theorem handDown_raised (c : Nat) : (handDown c s).raised = s.raised := rfl
@[simp] theorem handDown_outbox (c : Nat) : (handDown c s).outbox = s.outbox := rfl
@[simp] theorem handDown_pending (c : Nat) : (handDown c s).pending = s.pending := rfl

/-! ### dropTicket -/

@[simp] theorem dropTicket_tracker (n : Nat) : (dropTicket n s).tracker = s.tracker := rfl
@[simp] theorem dropTicket_station (n : Nat) : (dropTicket n s).station = s.station := rfl
@[simp] theorem dropTicket_arches (n : Nat) : (dropTicket n s).arches = s.arches := rfl
@[simp] theorem dropTicket_trace (n : Nat) : (dropTicket n s).trace = s.trace := rfl
@[simp] theorem dropTicket_entry (n : Nat) : (dropTicket n s).entry = s.entry := rfl
@[simp] theorem dropTicket_ticketCounter (n : Nat) : (dropTicket n s).sales.ticketCounter = s.sales.ticketCounter := rfl
@[simp] theorem dropTicket_sequenceCounter (n : Nat) : (dropTicket n s).sales.sequenceCounter = s.sales.sequenceCounter := rfl
@[simp] theorem dropTicket_expired (n : Nat) : (dropTicket n s).sales.expired = s.sales.expired := rfl
@[simp] theorem dropTicket_planAvailable (n : Nat) : (dropTicket n s).sales.planAvailable = s.sales.planAvailable := rfl
@[simp] theorem dropTicket_extraAvailable (n : Nat) : (dropTicket n s).sales.extraAvailable = s.sales.extraAvailable := rfl
@[simp] theorem dropTicket_supervisor (n : Nat) : (dropTicket n s).supervisor = s.supervisor := rfl
@[simp] theorem dropTicket_journal (n : Nat) : (dropTicket n s).journal = s.journal := rfl
@[simp] theorem dropTicket_links (n : Nat) : (dropTicket n s).links = s.links := rfl
@[simp] theorem dropTicket_settings (n : Nat) : (dropTicket n s).settings = s.settings := rfl
@[simp] theorem dropTicket_store (n : Nat) : (dropTicket n s).store = s.store := rfl
@[simp] theorem dropTicket_locks (n : Nat) : (dropTicket n s).locks = s.locks := rfl
@[simp] theorem dropTicket_strap (n : Nat) : (dropTicket n s).strap = s.strap := rfl
@[simp] theorem dropTicket_rehearsal (n : Nat) : (dropTicket n s).rehearsal = s.rehearsal := rfl
@[simp] theorem dropTicket_powered (n : Nat) : (dropTicket n s).powered = s.powered := rfl
@[simp] theorem dropTicket_raised (n : Nat) : (dropTicket n s).raised = s.raised := rfl
@[simp] theorem dropTicket_outbox (n : Nat) : (dropTicket n s).outbox = s.outbox := rfl
@[simp] theorem dropTicket_pending (n : Nat) : (dropTicket n s).pending = s.pending := rfl

/-! ### pulseRoller -/

@[simp] theorem pulseRoller_tracker : (pulseRoller s).tracker = s.tracker := rfl
@[simp] theorem pulseRoller_station : (pulseRoller s).station = s.station := rfl
@[simp] theorem pulseRoller_arches : (pulseRoller s).arches = s.arches := rfl
@[simp] theorem pulseRoller_trace : (pulseRoller s).trace = s.trace := rfl
@[simp] theorem pulseRoller_table : (pulseRoller s).entry.table = s.entry.table := rfl
@[simp] theorem pulseRoller_carCounter : (pulseRoller s).entry.carCounter = s.entry.carCounter := rfl
@[simp] theorem pulseRoller_call : (pulseRoller s).entry.call = s.entry.call := rfl
@[simp] theorem pulseRoller_remembered : (pulseRoller s).entry.remembered = s.entry.remembered := rfl
@[simp] theorem pulseRoller_signals : (pulseRoller s).entry.signals = s.entry.signals := rfl
@[simp] theorem pulseRoller_loops : (pulseRoller s).entry.loops = s.entry.loops := rfl
@[simp] theorem pulseRoller_entryClosed : (pulseRoller s).entry.entryClosed = s.entry.entryClosed := rfl
@[simp] theorem pulseRoller_exitClosed : (pulseRoller s).entry.exitClosed = s.entry.exitClosed := rfl
@[simp] theorem pulseRoller_entryWheel : (pulseRoller s).entry.entryWheel = s.entry.entryWheel := rfl
@[simp] theorem pulseRoller_exitWheel : (pulseRoller s).entry.exitWheel = s.entry.exitWheel := rfl
@[simp] theorem pulseRoller_sales : (pulseRoller s).sales = s.sales := rfl
@[simp] theorem pulseRoller_supervisor : (pulseRoller s).supervisor = s.supervisor := rfl
@[simp] theorem pulseRoller_journal : (pulseRoller s).journal = s.journal := rfl
@[simp] theorem pulseRoller_links : (pulseRoller s).links = s.links := rfl
@[simp] theorem pulseRoller_settings : (pulseRoller s).settings = s.settings := rfl
@[simp] theorem pulseRoller_store : (pulseRoller s).store = s.store := rfl
@[simp] theorem pulseRoller_locks : (pulseRoller s).locks = s.locks := rfl
@[simp] theorem pulseRoller_strap : (pulseRoller s).strap = s.strap := rfl
@[simp] theorem pulseRoller_rehearsal : (pulseRoller s).rehearsal = s.rehearsal := rfl
@[simp] theorem pulseRoller_powered : (pulseRoller s).powered = s.powered := rfl
@[simp] theorem pulseRoller_raised : (pulseRoller s).raised = s.raised := rfl
@[simp] theorem pulseRoller_outbox : (pulseRoller s).outbox = s.outbox := rfl
@[simp] theorem pulseRoller_pending : (pulseRoller s).pending = s.pending := rfl

/-! ### setAvailability -/

@[simp] theorem setAvailability_tracker : (setAvailability s).tracker = s.tracker := rfl
@[simp] theorem setAvailability_station : (setAvailability s).station = s.station := rfl
@[simp] theorem setAvailability_arches : (setAvailability s).arches = s.arches := rfl
@[simp] theorem setAvailability_trace : (setAvailability s).trace = s.trace := rfl
@[simp] theorem setAvailability_entry : (setAvailability s).entry = s.entry := rfl
@[simp] theorem setAvailability_tickets : (setAvailability s).sales.tickets = s.sales.tickets := rfl
@[simp] theorem setAvailability_laneOrders : (setAvailability s).sales.laneOrders = s.sales.laneOrders := rfl
@[simp] theorem setAvailability_stalled : (setAvailability s).sales.stalled = s.sales.stalled := rfl
@[simp] theorem setAvailability_ticketCounter : (setAvailability s).sales.ticketCounter = s.sales.ticketCounter := rfl
@[simp] theorem setAvailability_sequenceCounter : (setAvailability s).sales.sequenceCounter = s.sales.sequenceCounter := rfl
@[simp] theorem setAvailability_expired : (setAvailability s).sales.expired = s.sales.expired := rfl
@[simp] theorem setAvailability_supervisor : (setAvailability s).supervisor = s.supervisor := rfl
@[simp] theorem setAvailability_journal : (setAvailability s).journal = s.journal := rfl
@[simp] theorem setAvailability_links : (setAvailability s).links = s.links := rfl
@[simp] theorem setAvailability_settings : (setAvailability s).settings = s.settings := rfl
@[simp] theorem setAvailability_store : (setAvailability s).store = s.store := rfl
@[simp] theorem setAvailability_locks : (setAvailability s).locks = s.locks := rfl
@[simp] theorem setAvailability_strap : (setAvailability s).strap = s.strap := rfl
@[simp] theorem setAvailability_rehearsal : (setAvailability s).rehearsal = s.rehearsal := rfl
@[simp] theorem setAvailability_powered : (setAvailability s).powered = s.powered := rfl
@[simp] theorem setAvailability_raised : (setAvailability s).raised = s.raised := rfl
@[simp] theorem setAvailability_outbox : (setAvailability s).outbox = s.outbox := rfl
@[simp] theorem setAvailability_pending : (setAvailability s).pending = s.pending := rfl

/-! ### modifyBank -/

@[simp] theorem modifyBank_tracker (b : BankId) (f : Bank → Bank) : (modifyBank b f s).tracker = s.tracker := by cases b <;> rfl
@[simp] theorem modifyBank_station (b : BankId) (f : Bank → Bank) : (modifyBank b f s).station = s.station := by cases b <;> rfl
@[simp] theorem modifyBank_arches (b : BankId) (f : Bank → Bank) : (modifyBank b f s).arches = s.arches := by cases b <;> rfl
@[simp] theorem modifyBank_trace (b : BankId) (f : Bank → Bank) : (modifyBank b f s).trace = s.trace := by cases b <;> rfl
@[simp] theorem modifyBank_entry (b : BankId) (f : Bank → Bank) : (modifyBank b f s).entry = s.entry := by cases b <;> rfl
@[simp] theorem modifyBank_sales (b : BankId) (f : Bank → Bank) : (modifyBank b f s).sales = s.sales := by cases b <;> rfl
@[simp] theorem modifyBank_supervisor (b : BankId) (f : Bank → Bank) : (modifyBank b f s).supervisor = s.supervisor := by cases b <;> rfl
@[simp] theorem modifyBank_links (b : BankId) (f : Bank → Bank) : (modifyBank b f s).links = s.links := by cases b <;> rfl
@[simp] theorem modifyBank_settings (b : BankId) (f : Bank → Bank) : (modifyBank b f s).settings = s.settings := by cases b <;> rfl
@[simp] theorem modifyBank_store (b : BankId) (f : Bank → Bank) : (modifyBank b f s).store = s.store := by cases b <;> rfl
@[simp] theorem modifyBank_locks (b : BankId) (f : Bank → Bank) : (modifyBank b f s).locks = s.locks := by cases b <;> rfl
@[simp] theorem modifyBank_strap (b : BankId) (f : Bank → Bank) : (modifyBank b f s).strap = s.strap := by cases b <;> rfl
@[simp] theorem modifyBank_rehearsal (b : BankId) (f : Bank → Bank) : (modifyBank b f s).rehearsal = s.rehearsal := by cases b <;> rfl
@[simp] theorem modifyBank_powered (b : BankId) (f : Bank → Bank) : (modifyBank b f s).powered = s.powered := by cases b <;> rfl
@[simp] theorem modifyBank_raised (b : BankId) (f : Bank → Bank) : (modifyBank b f s).raised = s.raised := by cases b <;> rfl
@[simp] theorem modifyBank_outbox (b : BankId) (f : Bank → Bank) : (modifyBank b f s).outbox = s.outbox := by cases b <;> rfl
@[simp] theorem modifyBank_pending (b : BankId) (f : Bank → Bank) : (modifyBank b f s).pending = s.pending := by cases b <;> rfl

end Sys2Proof.Machine
end

