-- ==== Sys2Proof/Laws/Links.lean ====
section
/-! SUPPORT. What offering notices and responses can do: it touches the links' queues, flags and waiting responses and nothing
else; and from that, what an event and a request command answer. -/

namespace Sys2Proof.Machine

/-! ## One link changed -/

theorem get_set_same {α : Type} {n : Nat} (v : Vector α n) (i : Fin n) (x : α) : (v.set i.val x i.isLt).get i = x := by
  simp [Vector.get_eq_getElem]

theorem get_set_other {α : Type} {n : Nat} (v : Vector α n) (i j : Fin n) (x : α) (h : j ≠ i) :
    (v.set i.val x i.isLt).get j = v.get j := by
  have hv : i.val ≠ j.val := fun e => h (Fin.ext e.symm)
  simp [Vector.get_eq_getElem, hv]

@[simp] theorem get_modifyAt_same {α : Type} {n : Nat} (v : Vector α n) (i : Fin n) (f : α → α) :
    (modifyAt v i f).get i = f (v.get i) := get_set_same v i _

theorem get_modifyAt_other {α : Type} {n : Nat} (v : Vector α n) (i j : Fin n) (f : α → α) (h : j ≠ i) :
    (modifyAt v i f).get j = v.get j := get_set_other v i j _ h

@[simp] theorem linkAt_modifyLink_same (l : Fin 4) (f : Link → Link) (s : State) :
    linkAt l (modifyLink l f s) = f (linkAt l s) := get_modifyAt_same s.links l f

theorem linkAt_modifyLink_other (l m : Fin 4) (f : Link → Link) (s : State) (h : m ≠ l) :
    linkAt m (modifyLink l f s) = linkAt m s := get_modifyAt_other s.links l m f h

/-- Reading one element after a change elsewhere or there. -/
theorem get_modifyAt {α : Type} {n : Nat} (v : Vector α n) (i j : Fin n) (f : α → α) :
    (modifyAt v i f).get j = if j = i then f (v.get j) else v.get j := by
  by_cases h : j = i
  · subst h; simp
  · simp [h, get_modifyAt_other v i j f h]

theorem get_mk_toArray {α : Type} {n : Nat} (l : List α) (h : l.toArray.size = n) (i : Fin n) :
    (Vector.mk l.toArray h).get i = l[i.val]'(by have := i.isLt; simp at h; omega) := by
  simp [Vector.get]

@[simp] theorem get_mapAll {α β : Type} {n : Nat} (f : α → β) (v : Vector α n) (i : Fin n) :
    (mapAll f v).get i = f (v.get i) := by
  unfold mapAll
  rw [get_mk_toArray]
  simp [Vector.get_eq_getElem]

@[simp] theorem get_tabulate {α : Type} {n : Nat} (f : Fin n → α) (i : Fin n) : (tabulate f).get i = f i := by
  unfold tabulate
  rw [get_mk_toArray]
  simp

/-! ## Receivers -/

theorem ReceiversKept.refl (v : Vector Link 4) : ReceiversKept v v := fun _ => ⟨rfl, rfl, rfl, rfl, rfl⟩

theorem ReceiversKept.trans {u v w : Vector Link 4} (h : ReceiversKept u v) (k : ReceiversKept v w) : ReceiversKept u w :=
  fun l => ⟨(k l).1.trans (h l).1, (k l).2.1.trans (h l).2.1, (k l).2.2.1.trans (h l).2.2.1,
    (k l).2.2.2.1.trans (h l).2.2.2.1, (k l).2.2.2.2.trans (h l).2.2.2.2⟩

/-- A change to one link that leaves its receiver alone leaves every receiver alone. -/
theorem ReceiversKept.modify (v : Vector Link 4) (l : Fin 4) (f : Link → Link)
    (h : ∀ k, (f k).receiver = k.receiver ∧ (f k).timer = k.timer ∧ (f k).pendingFrame = k.pendingFrame ∧
      (f k).errors = k.errors ∧ (f k).timeouts = k.timeouts) : ReceiversKept v (modifyAt v l f) := by
  intro m
  rw [get_modifyAt]
  split
  · exact h _
  · exact ⟨rfl, rfl, rfl, rfl, rfl⟩

theorem offerNotice_keeps (n : Notice) (k : Link) :
    (offerNotice n k).receiver = k.receiver ∧ (offerNotice n k).timer = k.timer ∧
      (offerNotice n k).pendingFrame = k.pendingFrame ∧ (offerNotice n k).errors = k.errors ∧
      (offerNotice n k).timeouts = k.timeouts := by
  unfold offerNotice
  dsimp only
  split <;> exact ⟨rfl, rfl, rfl, rfl, rfl⟩

/-- One notice touches the links alone. -/
theorem sendNotice_frame (s : State) (n : Notice) :
    ∃ links, ReceiversKept s.links links ∧ sendNotice s n = { s with links := links } := by
  have step : ∀ (l : List (Fin 4)) (t : State), ∃ links, ReceiversKept t.links links ∧
      l.foldl (fun t l => if addressed n l t then modifyLink l (offerNotice n) t else t) t = { t with links := links } := by
    intro l
    induction l with
    | nil => exact fun t => ⟨t.links, .refl _, rfl⟩
    | cons a rest ih =>
      intro t
      simp only [List.foldl_cons]
      split
      · obtain ⟨links, hk, he⟩ := ih (modifyLink a (offerNotice n) t)
        exact ⟨links, (ReceiversKept.modify t.links a _ (offerNotice_keeps n)).trans hk, by rw [he]; rfl⟩
      · exact ih t
  exact step allLinks s

/-- Offering an event's notices touches the links, and empties the outbox. -/
theorem flush_frame (s : State) :
    ∃ links, ReceiversKept s.links links ∧ flush s = { s with links := links, outbox := [] } := by
  have step : ∀ (l : List Notice) (t : State), ∃ links, ReceiversKept t.links links ∧
      l.foldl sendNotice t = { t with links := links } := by
    intro l
    induction l with
    | nil => exact fun t => ⟨t.links, .refl _, rfl⟩
    | cons a rest ih =>
      intro t
      obtain ⟨links, hk, he⟩ := sendNotice_frame t a
      obtain ⟨links', hk', he'⟩ := ih (sendNotice t a)
      rw [he] at hk' he'
      exact ⟨links', hk.trans hk', by rw [List.foldl_cons, he, he']⟩
  obtain ⟨links, hk, he⟩ := step (noticeOrder s.outbox) { s with outbox := [] }
  exact ⟨links, hk, by unfold flush; rw [he]⟩

/-- Without a notice nothing is offered. -/
theorem flush_none (s : State) (h : s.outbox = []) : flush s = s := by
  unfold flush
  rw [h]
  cases s
  simp_all [noticeOrder, allNoticeTypes]

/-- A response is offered to its own link and touches nothing else. -/
theorem offerResponse_frame (l : Fin 4) (r : Response) (s : State) :
    ∃ links, ReceiversKept s.links links ∧ offerResponse l r s = { s with links := links } := by
  unfold offerResponse
  split
  · exact ⟨(placeResponse l r s).links, ReceiversKept.modify s.links l _ fun _ => ⟨rfl, rfl, rfl, rfl, rfl⟩, rfl⟩
  · exact ⟨(modifyLink l (fun k => { k with waiting := some r }) s).links,
      ReceiversKept.modify s.links l _ fun _ => ⟨rfl, rfl, rfl, rfl, rfl⟩, rfl⟩

/-- A response that finds room is placed (R175). -/
theorem offerResponse_room (l : Fin 4) (r : Response) (s : State)
    (h : hasRoom (linkAt l s) (responseFrame r (linkAt l s) s) = true) : offerResponse l r s = placeResponse l r s := by
  simp [offerResponse, h]

/-- A request's answer and its notices touch the links alone, and empty the outbox. -/
theorem answer_frame (l : Fin 4) (kind : Byte) (x : State × Reply) :
    ∃ links, ReceiversKept x.1.links links ∧ answer l kind x = { x.1 with links := links, outbox := [] } := by
  obtain ⟨links, hk, he⟩ := offerResponse_frame l { kind := kind, status := x.2.status, body := x.2.body } x.1
  obtain ⟨links', hk', he'⟩ := flush_frame { x.1 with links := links }
  exact ⟨links', hk.trans hk', by unfold answer; rw [he, he']⟩

/-! ## Events -/

/-- Where no cause is left over, none is taken. -/
theorem takeCauses_none (s : State) (h : s.raised = []) : takeCauses s = s := by
  unfold takeCauses
  rw [h]
  cases s
  simp_all

/-- An event that raises no cause of its own ends in what it did (R176). -/
theorem event_ends (f : State → State) (s : State) (hp : s.powered = true) (hr : (f s).raised = []) :
    EndsIn s (event f s) (f s) := by
  unfold EndsIn event settleEvent
  rw [if_pos hp, takeCauses_none _ hr]

/-- An event on a part without supply does nothing (R190). -/
theorem event_unpowered (f : State → State) (s : State) (hp : s.powered = false) : event f s = .next s := by
  simp [event, hp]

/-- A frame on a free link is taken at once (R173). -/
theorem arrive_free (l : Fin 4) (f : Frame) (act : State → State) (s : State) (h : LinkFree l s) : arrive l f act s = act s := by
  simp [arrive, takeOrHold, h.1, h.2]

/-- A request command on a free link is answered: what its owner did, its response, its notices (R174 to R176). -/
theorem request_answered (l : Fin 4) (i : Instr) (run : State → State × Reply) (s t : State) (reply : Reply) (h : Ready l s)
    (he : run s = (t, reply)) (hr : t.raised = []) :
    Answered l (requestFrame i).kind s (request l i run s) reply.status reply.body t := by
  obtain ⟨links, -, hl⟩ := answer_frame l (requestFrame i).kind (t, reply)
  have h1 : (answer l (requestFrame i).kind (t, reply)).raised = [] := by rw [hl]; exact hr
  have h2 : (answer l (requestFrame i).kind (t, reply)).outbox = [] := by rw [hl]
  unfold Answered request event settleEvent requestArrives
  rw [if_pos h.1.1, arrive_free _ _ _ _ h.2, he, takeCauses_none _ h1, flush_none _ h2]
  rfl

end Sys2Proof.Machine
end

