-- ==== Sys2Proof/Laws/Inert.lean ====
section
/-! SUPPORT. What the operations on cars, arches, tickets, banks and halts never touch: the links, the settings and their store, the
locks, the strap, the supply, the causes left over and the queue of commands. One lemma for each shared operation. Beside them, what
it is that a timer has run out and that an image loads. -/

namespace Sys2Proof.Machine

/-- The parts of the state that no operation on cars, arches, tickets, banks and halts touches. -/
structure Inert (s t : State) : Prop where
  links : t.links = s.links
  settings : t.settings = s.settings
  store : t.store = s.store
  locks : t.locks = s.locks
  strap : t.strap = s.strap
  powered : t.powered = s.powered
  raised : t.raised = s.raised
  pending : t.pending = s.pending

theorem Inert.refl (s : State) : Inert s s := ⟨rfl, rfl, rfl, rfl, rfl, rfl, rfl, rfl⟩

theorem Inert.trans {s t u : State} (h : Inert s t) (k : Inert t u) : Inert s u :=
  ⟨k.1.trans h.1, k.2.trans h.2, k.3.trans h.3, k.4.trans h.4, k.5.trans h.5, k.6.trans h.6, k.7.trans h.7, k.8.trans h.8⟩

theorem Inert.foldl {α : Type} (f : State → α → State) (h : ∀ s a, Inert s (f s a)) (l : List α) (s : State) :
    Inert s (l.foldl f s) := by
  induction l generalizing s with
  | nil => exact .refl s
  | cons a rest ih => exact (h s a).trans (ih _)

/-- A change of a part that is none of these. -/
theorem Inert.of {s t : State} (h : t.links = s.links ∧ t.settings = s.settings ∧ t.store = s.store ∧ t.locks = s.locks ∧
    t.strap = s.strap ∧ t.powered = s.powered ∧ t.raised = s.raised ∧ t.pending = s.pending) : Inert s t :=
  ⟨h.1, h.2.1, h.2.2.1, h.2.2.2.1, h.2.2.2.2.1, h.2.2.2.2.2.1, h.2.2.2.2.2.2.1, h.2.2.2.2.2.2.2⟩

variable (s : State)

/-! ## Plain updates -/

theorem modifyCar_inert (n : Nat) (f : Car → Car) : Inert s (modifyCar n f s) := .of ⟨rfl, rfl, rfl, rfl, rfl, rfl, rfl, rfl⟩
theorem modifyArch_inert (a : Fin 12) (f : Arch → Arch) : Inert s (modifyArch a f s) :=
  .of ⟨rfl, rfl, rfl, rfl, rfl, rfl, rfl, rfl⟩
theorem modifyTicket_inert (n : Nat) (f : Ticket → Ticket) : Inert s (modifyTicket n f s) :=
  .of ⟨rfl, rfl, rfl, rfl, rfl, rfl, rfl, rfl⟩
theorem notify_inert (t : NoticeType) (b : List Byte) : Inert s (notify t b s) := .of ⟨rfl, rfl, rfl, rfl, rfl, rfl, rfl, rfl⟩
theorem notifyLink_inert (l : Fin 4) (b : List Byte) : Inert s (notifyLink l b s) :=
  .of ⟨rfl, rfl, rfl, rfl, rfl, rfl, rfl, rfl⟩
theorem dropTicket_inert (n : Nat) : Inert s (dropTicket n s) := .of ⟨rfl, rfl, rfl, rfl, rfl, rfl, rfl, rfl⟩
theorem setSignal_inert (l : Fin 3) (go : Bool) : Inert s (setSignal l go s) := .of ⟨rfl, rfl, rfl, rfl, rfl, rfl, rfl, rfl⟩
theorem forget_inert : Inert s (forget s) := .of ⟨rfl, rfl, rfl, rfl, rfl, rfl, rfl, rfl⟩
theorem modifyHalt_inert (f : HaltRecord → HaltRecord) : Inert s (modifyHalt f s) :=
  .of ⟨rfl, rfl, rfl, rfl, rfl, rfl, rfl, rfl⟩
theorem watching_inert (w : Watch) : Inert s (watching w s) := .of ⟨rfl, rfl, rfl, rfl, rfl, rfl, rfl, rfl⟩
theorem setAvailability_inert : Inert s (setAvailability s) := .of ⟨rfl, rfl, rfl, rfl, rfl, rfl, rfl, rfl⟩
theorem modifyBank_inert (b : BankId) (f : Bank → Bank) : Inert s (modifyBank b f s) := by
  cases b <;> exact .of ⟨rfl, rfl, rfl, rfl, rfl, rfl, rfl, rfl⟩
theorem handDown_inert (c : Nat) : Inert s (handDown c s) := .of ⟨rfl, rfl, rfl, rfl, rfl, rfl, rfl, rfl⟩
theorem recomputeClass_inert : Inert s (recomputeClass s) := .of ⟨rfl, rfl, rfl, rfl, rfl, rfl, rfl, rfl⟩

theorem evaluateRun_inert : Inert s (evaluateRun s) := by
  unfold evaluateRun
  split
  · exact .refl s
  · split <;> exact .of ⟨rfl, rfl, rfl, rfl, rfl, rfl, rfl, rfl⟩

/-! ## Cars, classes, arches -/

theorem tagCar_inert (n : Nat) (t : Tag) : Inert s (tagCar n t s) := modifyCar_inert s n _
theorem setStatus_inert (n : Nat) (a : Fin 12) (st : ArchStatus) : Inert s (setStatus n a st s) := modifyCar_inert s n _
theorem startReturn_inert (a : Fin 12) : Inert s (startReturn a s) := modifyArch_inert s a _
theorem archNotice_inert (r : ArchReason) (a : Fin 12) : Inert s (archNotice r a s) := notify_inert s _ _
theorem changeTunnel_inert (new : TunnelState) (r : ChangeReason) (n : Nat) (more : List Byte) :
    Inert s (changeTunnel new r n more s) := .of ⟨rfl, rfl, rfl, rfl, rfl, rfl, rfl, rfl⟩
theorem restartStep_inert (new : TunnelState) (r : ChangeReason) (n : Nat) (more : List Byte) :
    Inert s (restartStep new r n more s) := .of ⟨rfl, rfl, rfl, rfl, rfl, rfl, rfl, rfl⟩
theorem ticketNotice_inert (k : TicketNoticeKind) (t : Ticket) (left : Nat) (more : List Byte) :
    Inert s (ticketNotice k t left more s) := notifyLink_inert s _ _
theorem journalNotice_inert (kind : Nat) (b : BankId) (contents : List Byte) : Inert s (journalNotice kind b contents s) :=
  notify_inert s _ _

theorem reevaluate_inert (r : AvailabilityReason) : Inert s (reevaluate r s) :=
  ((setAvailability_inert s).trans (Inert.foldl _ (fun u _ => notify_inert u .availability _) _ _)).trans
    (Inert.foldl _ (fun u _ => notify_inert u .availability _) _ _)

theorem setClass_inert (n k : Nat) : Inert s (setClass n k s) := by
  unfold setClass
  split
  · exact .refl s
  · split
    · exact .refl s
    · exact (modifyCar_inert s _ _).trans (recomputeClass_inert _)

theorem computeClass_inert (n : Nat) : Inert s (computeClass n s) := by
  unfold computeClass
  split
  · exact .refl s
  · split
    · exact setClass_inert s _ _
    · exact (tagCar_inert s _ _).trans (setClass_inert _ _ _)

theorem joinDomain_inert (n : Nat) : Inert s (joinDomain n s) := by
  unfold joinDomain
  split
  · exact .refl s
  · split
    · exact .refl s
    · exact (modifyCar_inert s _ _).trans (recomputeClass_inert _)

theorem statusSettled_inert (n : Nat) : Inert s (statusSettled n s) := by
  unfold statusSettled
  split
  · exact .refl s
  · split
    · exact (modifyCar_inert s _ _).trans (recomputeClass_inert _)
    · exact .refl s

theorem handStatus_inert (a : Fin 12) (n : Nat) : Inert s (handStatus a n s) := by
  unfold handStatus
  split
  · exact statusSettled_inert s n
  · exact .refl s

theorem purgeArch_inert (n : Nat) (a : Fin 12) : Inert s (purgeArch n s a) := by
  unfold purgeArch
  dsimp only
  split
  · exact (modifyArch_inert s _ _).trans (startReturn_inert _ _)
  · exact modifyArch_inert s _ _

theorem purgeCar_inert (n : Nat) : Inert s (purgeCar n s) := Inert.foldl _ (fun s a => purgeArch_inert s n a) _ _

theorem clearArch_inert (a : Fin 12) : Inert s (clearArch s a) := by
  unfold clearArch
  dsimp only
  split
  · exact (modifyArch_inert s _ _).trans (startReturn_inert _ _)
  · exact (modifyArch_inert s _ _).trans (startReturn_inert _ _)
  all_goals exact modifyArch_inert s _ _

theorem withdraw_inert (a : Fin 12) : Inert s (withdraw s a) := by
  unfold withdraw
  dsimp only
  split
  · split
    · exact startReturn_inert s a
    · exact (((startReturn_inert s a).trans (setStatus_inert _ _ _ _)).trans (tagCar_inert _ _ _)).trans (handStatus_inert _ _ _)
  · exact .refl s

theorem withdrawAll_inert : Inert s (withdrawAll s) := Inert.foldl _ (fun s a => withdraw_inert s a) _ _

theorem insertEvent_inert (a : Fin 12) (e : ArchEvent) : Inert s (insertEvent a e s) := modifyArch_inert s a _

theorem insertEngages_inert (n : Nat) : Inert s (insertEngages n s) := by
  unfold insertEngages
  split
  · exact .refl s
  · split
    · exact .refl s
    · exact Inert.foldl _ (fun s a => insertEvent_inert s a _) _ _

theorem insertReleases_inert (n : Nat) : Inert s (insertReleases n s) := by
  unfold insertReleases
  split
  · exact .refl s
  · split
    · exact .refl s
    · exact Inert.foldl _ (fun s a => insertEvent_inert s a _) _ _

theorem insertAbsent_inert (n : Nat) : Inert s (insertAbsent n s) := by
  unfold insertAbsent
  split
  · exact .refl s
  · split
    · exact .refl s
    · exact (Inert.foldl _ (fun s a => setStatus_inert s n a .skipped) _ _).trans
        (Inert.foldl _ (fun s a => (insertEvent_inert s a _).trans (insertEvent_inert _ a _)) _ _)

/-! ## The journal -/

theorem submit_inert (b : BankId) (r : JournalRecord) : Inert s (submit b r s) := by
  unfold submit
  split
  · dsimp only
    split
    · exact (modifyBank_inert s _ _).trans (journalNotice_inert _ _ _ _)
    · exact modifyBank_inert s _ _
  · exact (modifyBank_inert s _ _).trans (journalNotice_inert _ _ _ _)

theorem submitTicket_inert (t : Ticket) (o : WashOutcome) : Inert s (submitTicket t o s) :=
  (modifyBank_inert s _ _).trans (submit_inert _ _ _)

theorem sealedNotice_inert (b : BankId) : Inert s (sealedNotice b s) := journalNotice_inert s _ _ _

theorem sealIfDrained_inert (b : BankId) : Inert s (sealIfDrained b s) := by
  unfold sealIfDrained
  split
  · exact (modifyBank_inert s _ _).trans (sealedNotice_inert _ _)
  · exact .refl s

theorem submitCar_inert (c : Car) (k : RemovalKind) (applied : Nat) : Inert s (submitCar c k applied s) := by
  unfold submitCar
  split
  · exact .refl s
  · exact (submit_inert s _ _).trans (sealIfDrained_inert _ _)

/-! ## The station -/

theorem unwatch_inert (n : Nat) : Inert s (unwatch n s) := by
  unfold unwatch
  split
  · exact .refl s
  · split
    · exact watching_inert s _
    · exact .refl s
  · split
    · exact watching_inert s _
    · exact .refl s

/-! ## The entry -/

theorem issueCall_inert (t : Ticket) : Inert s (issueCall t s) := by
  unfold issueCall
  dsimp only
  refine Inert.trans ?_ (evaluateRun_inert _)
  exact .of ⟨rfl, rfl, rfl, rfl, rfl, rfl, rfl, rfl⟩

theorem arbitrateWith_inert (gap : Bool) : Inert s (arbitrateWith gap s) := by
  unfold arbitrateWith
  split
  · split
    · exact .refl s
    · exact issueCall_inert s _
  · exact .refl s

theorem arbitrate_inert : Inert s (arbitrate s) := arbitrateWith_inert s _

theorem endCall_inert (k : Call) : Inert s (endCall k s) := .of ⟨rfl, rfl, rfl, rfl, rfl, rfl, rfl, rfl⟩

theorem cancelCall_inert : Inert s (cancelCall s) := by
  unfold cancelCall
  split
  · exact .refl s
  · dsimp only
    split
    · exact endCall_inert s _
    · exact ((endCall_inert s _).trans (modifyTicket_inert _ _ _)).trans (ticketNotice_inert _ _ _ _ _)

theorem closeIfEmpty_inert : Inert s (closeIfEmpty s) := by
  unfold closeIfEmpty
  split
  · exact (changeTunnel_inert s _ _ _ _).trans (evaluateRun_inert _)
  · exact .refl s

theorem removeCar_inert (c : Car) (k : RemovalKind) : Inert s (removeCar c k s) := by
  unfold removeCar
  dsimp only
  refine Inert.trans ?_ (closeIfEmpty_inert _)
  refine Inert.trans ?_ (evaluateRun_inert _)
  split
  · refine Inert.trans ?_ (recomputeClass_inert _)
    refine Inert.trans ?_ (unwatch_inert _ _)
    refine Inert.trans ?_ (purgeCar_inert _ _)
    exact .of ⟨rfl, rfl, rfl, rfl, rfl, rfl, rfl, rfl⟩
  · refine Inert.trans ?_ (submitCar_inert _ _ _ _)
    refine Inert.trans ?_ (recomputeClass_inert _)
    refine Inert.trans ?_ (unwatch_inert _ _)
    refine Inert.trans ?_ (purgeCar_inert _ _)
    exact .of ⟨rfl, rfl, rfl, rfl, rfl, rfl, rfl, rfl⟩

theorem removeAll_inert (k : RemovalKind) : Inert s (removeAll k s) := Inert.foldl _ (fun s _ => removeCar_inert s _ k) _ _

/-! ## The Supervisor -/

theorem endRehearsal_inert (e : RunEnding) (c : Car) : Inert s (endRehearsal e c s) :=
  .of ⟨rfl, rfl, rfl, rfl, rfl, rfl, rfl, rfl⟩

theorem abandonRehearsal_inert (n : Nat) : Inert s (abandonRehearsal n s) := by
  unfold abandonRehearsal
  split
  · split
    · exact .refl s
    · exact endRehearsal_inert s _ _
  · exact .refl s

theorem dropPhantom_inert : Inert s (dropPhantom s) := by
  unfold dropPhantom
  split
  · exact .refl s
  · exact removeCar_inert s _ _

theorem markHalt_inert (n : Nat) : Inert s (markHalt n s) := .of ⟨rfl, rfl, rfl, rfl, rfl, rfl, rfl, rfl⟩

theorem firstCause_inert (c : Cause) : Inert s (firstCause c s) := by
  unfold firstCause
  dsimp only
  refine Inert.trans ?_ (evaluateRun_inert _)
  refine Inert.trans ?_ (dropPhantom_inert _)
  refine Inert.trans ?_ (forget_inert _)
  refine Inert.trans ?_ (cancelCall_inert _)
  refine Inert.trans ?_ (withdrawAll_inert _)
  refine Inert.trans ?_ (markHalt_inert _ _)
  refine Inert.trans ?_ (changeTunnel_inert _ _ _ _ _)
  refine Inert.trans (abandonRehearsal_inert s (newHalt c s).number) ?_
  exact .of ⟨rfl, rfl, rfl, rfl, rfl, rfl, rfl, rfl⟩

theorem furtherCause_inert (c : Cause) : Inert s (furtherCause c s) := (modifyHalt_inert s _).trans (notify_inert _ _ _)

theorem endAttempt_inert (r : ChangeReason) (more : List Byte) : Inert s (endAttempt r more s) :=
  .of ⟨rfl, rfl, rfl, rfl, rfl, rfl, rfl, rfl⟩

/-- Taking a cause touches none of these. -/
theorem takeCause_inert (c : Cause) : Inert s (takeCause c s) := by
  unfold takeCause
  split
  · exact furtherCause_inert s c
  · exact (endAttempt_inert s _ _).trans (furtherCause_inert _ c)
  all_goals exact firstCause_inert s c

/-- Taking the causes left over touches none of these but the causes. -/
theorem takeCauses_links : (takeCauses s).links = s.links ∧ (takeCauses s).raised = [] ∧ (takeCauses s).pending = s.pending := by
  have h : Inert { s with raised := [] } (takeCauses s) := Inert.foldl _ (fun t c => takeCause_inert t c) _ _
  exact ⟨h.links, h.raised, h.pending⟩

/-! ## Endings -/

/-- A settled event leaves the part settled, whatever it did. -/
theorem settleEvent_settled : LeavesSettled (settleEvent s) := by
  obtain ⟨links, -, he⟩ := flush_frame (takeCauses s)
  unfold settleEvent
  rw [he]
  exact ⟨(takeCauses_links s).2.1, rfl⟩

/-! ## Timers and the image -/

/-- A timer has run out exactly when it runs and no unit is left. -/
@[simp] theorem ranOut_iff (timer : Option Nat) : ranOut timer = true ↔ timer = some 0 := beq_iff_eq

/-- An image passes its check as it is written. -/
@[simp] theorem writtenImage_passes (settings : Settings) : (writtenImage settings).passes = true := beq_self_eq_true _

/-- A start loads exactly the settings of an image as it is written. -/
theorem loadable_eq_some (image : Option StoreImage) (settings : Settings) :
    loadable image = some settings ↔ image = some (writtenImage settings) := by
  cases image with
  | none => simp [loadable]
  | some i =>
    obtain ⟨kept, check⟩ := i
    simp only [loadable, writtenImage, Option.filter_some, Option.map_eq_some_iff]
    simp [StoreImage.passes]
    constructor
    · rintro ⟨h, rfl⟩; exact ⟨rfl, h⟩
    · rintro ⟨rfl, h⟩; exact ⟨h, rfl⟩

end Sys2Proof.Machine
end

