-- ==== Sys2Proof/Tests/Slice0.lean ====
section
/-! SUPPORT. The model's own tests: terms that the well-formedness check refuses, worked cases of the spec, and for every statement with
hypotheses a concrete state and operands that meet them, clause by clause. -/

namespace Sys2Proof.Tests

open Sys2Proof.Machine

/-! ## A configured part -/

/-- Plan 0: region 0, 1899 cents, service 3 at press 20, extras 0 and 1 allowed. -/
def somePlan : Plan := ⟨[], true, 0, 1899, 4, [⟨3, 20⟩], 0x07⟩
/-- Plan 1: region 1, with service 9 that no arch provides. -/
def barePlan : Plan := ⟨[], true, 1, 1000, 2, [⟨9, 0⟩], 0⟩
/-- Arch 0: a lift of service 3. -/
def someLift : Layout := ⟨.lift, 3, 400, 20, 20, 24, 200, 2400, 240, 100, 200, .halt, false⟩
/-- Arch 1: a spray arch of service 4. -/
def someSpray : Layout := ⟨.spray, 4, 500, 20, 20, 0, 0, 0, 50, 10, 1, .skipCar, false⟩

def rigSettings : Settings :=
  { unconfiguredSettings with
    plans := ((Vector.replicate 24 blankPlan).set 0 somePlan).set 1 barePlan
    extras := ((Vector.replicate 8 blankExtra).set 0 ⟨[], true, 300, [⟨4, 5⟩]⟩).set 1 ⟨[], true, 450, []⟩
    discounts := (((Vector.replicate 8 noDiscount).set 0 ⟨.percent, 15, 1⟩).set 1 ⟨.amount, 500, 1⟩).set 2 ⟨.amount, 500, 2⟩
    access := ((Vector.replicate 4 openAccess).set 1 ⟨some 3, 1, 0, 0x0D, 0xFF⟩).set 2 ⟨none, 0, 0, 0, 0⟩
    layouts := ((Vector.replicate 12 unusedLayout).set 0 someLift).set 1 someSpray
    testProfiles := (Vector.replicate 2 none).set 0 (some [⟨1500, 800, 800⟩, ⟨1600, 800, 800⟩]) }

/-- A configured part in CLOSED. Link 0 and link 3 may do everything, link 1 is in lane 3 and cannot configure or restart edits, link 2 may
do nothing. -/
def rig : State :=
  { State.reset with
    settings := rigSettings
    sales.planAvailable := (Vector.replicate 24 false).set 0 true
    sales.extraAvailable := ((Vector.replicate 8 false).set 0 true).set 1 true
    store := ⟨some (writtenImage rigSettings), false, false, false, true, none⟩
    arches := (Vector.replicate 12 restingArch).set 0 { restingArch with command := 2400 } }

/-- The part in a tunnel state. -/
def inState (t : TunnelState) (s : State) : State := { s with supervisor.tunnel := t }

/-- A ticket of plan 0 in lane 1. -/
def someTicket (n : Nat) (st : TicketState) : Ticket :=
  ⟨n, st, 0, 0, 0, [], none, 1899, some .cash, 4, [⟨3, 20⟩], none, some n, 0⟩

/-- A car of plan 0, its profile complete. -/
def someCar (n : Nat) : Car :=
  ⟨n, false, some (100 + n), some 0, some 0, 4, [], none, 1899, some .cash, [⟨3, 20⟩], some .bankA, 0, some 0, .complete,
    [⟨1500, 800, 800⟩, ⟨1600, 800, 800⟩], 308, 4, none, false, Vector.replicate 12 0, (Vector.replicate 12 none).set 0 (some .pending),
    [], 0, false, false, none, false, []⟩

def withTickets (l : List Ticket) (s : State) : State := { s with sales.tickets := l }
def withCars (l : List Car) (s : State) : State := { s with entry.table := l }
/-- The part while it holds a halt record. -/
def underHalt (t resume : TunnelState) (s : State) : State :=
  { inState t s with supervisor.halt := some ⟨7, ⟨.manual, 0⟩, resume, [], 0, 0, 0, 0, 0⟩ }

def opened : State := inState .opened rig
def halted : State := underHalt .halted .opened rig
def restarting : State := { underHalt .restarting .opened rig with supervisor.restart := some ⟨0, 0⟩ }

/-- OPEN with its queues full: 12 cars and 16 tickets, one of them called, and a transmit queue of 256 bytes. -/
def full : State :=
  { withTickets (someTicket 1 .called :: (List.range 15).map fun i => someTicket (i + 2) .paid) opened with
    entry.table := (List.range 12).map fun i => someCar (i + 1)
    entry.call := some ⟨1, 0, 1⟩
    entry.signals := (Vector.replicate 3 false).set 0 true
    tracker.run := true
    tracker.stall := some 1
    journal.bankA := { zeroedBank .active with admitted := 12 }
    links := (Vector.replicate 4 restingLink).set 0 { restingLink with queue := List.replicate 256 0 }
    pending := [.halt 0] }

/-- A rehearsal under way. -/
def rehearsing : State :=
  { withCars [{ someCar 9 with phantom := true, ticket := none, lane := none, bank := none }] (inState .rehearsal rig) with
    tracker.run := true
    tracker.stall := some 200
    pending := [.clearTunnel 0] }

/-- A part without supply. -/
def dark : State := { State.reset with powered := false }

/-! ## Terms the well-formedness check refuses -/

theorem test_illFormed_quote :
    Instr.wellFormed (.quote 0 256 [] none none) = false ∧ Instr.wellFormed (.quote 0 0 [256] none none) = false ∧
    Instr.wellFormed (.quote 0 0 [] (some 255) none) = false ∧ Instr.wellFormed (.quote 0 0 [] none (some 0)) = false ∧
    Instr.wellFormed (.quote 0 0 (List.replicate 256 0) none none) = false := by decide +kernel

theorem test_illFormed_tickets :
    Instr.wellFormed (.confirm 0 65536 1) = false ∧ Instr.wellFormed (.confirm 0 1 256) = false ∧
    Instr.wellFormed (.cancel 0 65536) = false ∧ Instr.wellFormed (.voidTicket 0 65536) = false ∧
    Instr.wellFormed (.requeue 0 65536) = false ∧ Instr.wellFormed (.queryTickets 0 (some 0) 0) = false ∧
    Instr.wellFormed (.queryTickets 0 none 256) = false ∧ Instr.wellFormed (.holdExpiry 65536) = false := by decide

theorem test_illFormed_tunnel :
    Instr.wellFormed (.pullCar 0 65536) = false ∧ Instr.wellFormed (.queryTunnel 0 (some 65536) none) = false ∧
    Instr.wellFormed (.queryTunnel 0 none (some 255)) = false ∧ Instr.wellFormed (.queryHalt 0 256) = false ∧
    Instr.wellFormed (.rehearse 0 256 0 none) = false ∧ Instr.wellFormed (.rehearse 0 0 256 none) = false ∧
    Instr.wellFormed (.rehearse 0 0 0 (some 255)) = false ∧ Instr.wellFormed (.readTrace 0 (some 65535)) = false := by decide

theorem test_illFormed_arches :
    Instr.wellFormed (.setArchService 0 256 1) = false ∧ Instr.wellFormed (.setArchService 0 0 256) = false ∧
    Instr.wellFormed (.clearJam 0 256) = false ∧ Instr.wellFormed (.queryArch 0 256 none) = false ∧
    Instr.wellFormed (.queryArch 0 0 (some 255)) = false ∧
    Instr.wellFormed (.setArch 0 0 ⟨1, 0, 65536, 0, 0, 0, 0, 0, 0, 0, 0, 1, 1⟩) = false ∧
    Instr.wellFormed (.setArch 0 256 ⟨1, 0, 0, 0, 0, 0, 0, 0, 0, 0, 0, 1, 1⟩) = false ∧
    Instr.wellFormed (.encoderLineChange 0 ⟨0, 0, 0⟩ [.station, .station]) = false := by decide

theorem test_illFormed_catalog :
    Instr.wellFormed (.editPlan 0 0 blankPlan) = false ∧ Instr.wellFormed (.editExtra 0 0 blankExtra) = false ∧
    Instr.wellFormed (.editPlan 0 0 { blankPlan with name := List.replicate 16 0, price := 4294967296 }) = false ∧
    Instr.wellFormed (.editExtra 0 0 { blankExtra with name := List.replicate 16 0, services := [⟨256, 0⟩] }) = false ∧
    Instr.wellFormed (.editDiscount 0 256 ⟨1, 0, 0⟩) = false ∧ Instr.wellFormed (.editDiscount 0 0 ⟨1, 4294967296, 0⟩) = false ∧
    Instr.wellFormed (.editService 0 0 []) = false ∧ Instr.wellFormed (.lockRange 0 256 0) = false ∧
    Instr.wellFormed (.lockRange 0 0 256) = false ∧ Instr.wellFormed (.queryCatalog 0 256 0) = false := by decide

theorem test_illFormed_settings :
    Instr.wellFormed (.setGauge 0 1 0 [65536]) = false ∧ Instr.wellFormed (.setGauge 0 1 256 []) = false ∧
    Instr.wellFormed (.setSite 0 { defaultSite with gap := 65536 }) = false ∧
    Instr.wellFormed (.setSite 0 { defaultSite with fallback := some 255 }) = false ∧
    Instr.wellFormed (.setTestProfile 0 0 2 0 [⟨65536, 0, 0⟩]) = false ∧
    Instr.wellFormed (.setTestProfile 0 0 65536 0 []) = false ∧
    Instr.wellFormed (.setAccess 0 256 openAccess) = false ∧
    Instr.wellFormed (.setAccess 0 0 { openAccess with lane := some 0 }) = false ∧
    Instr.wellFormed (.queryStatus 0 256) = false ∧ Instr.wellFormed (.readJournal 0 1 (some 65535)) = false ∧
    Instr.wellFormed (.releaseBank 0 256) = false := by decide

theorem test_illFormed_frames :
    Instr.wellFormed (.unknownKindRequest 0 0x10 []) = false ∧
    Instr.wellFormed (.unknownKindRequest 0 0x60 (List.replicate 120 0)) = false := by decide

/-! ## Witnesses: the queue, every command, the invariants

Each theorem below is named after a statement and shows its hypotheses met, one line per clause. -/

theorem witness_idleStep : (rig.pending = [] ∧ rig.powered = true) ∧ dark.pending = [] ∧ dark.powered = false := by decide +kernel

theorem witness_everyCommand : rig.powered = true ∧ dark.powered = false ∧
    ∀ lines verified, Instr.saveStageBegin ≠ .powerOnReset lines verified := ⟨rfl, rfl, nofun⟩

theorem witness_decodedRequest :
    (Instr.wellFormed (.pullCar 2 65535) = true ∧ requestLink (.pullCar 2 65535) = some 2 ∧
      encodeRequest (.pullCar 2 65535) = some ⟨0x21, [0xFF, 0xFF]⟩ ∧ isRequestKind 0x21 = true) ∧
    Instr.wellFormed (.unknownKindRequest 3 0x0F []) = true ∧ requestLink (.unknownKindRequest 3 0x0F []) = some 3 ∧
      encodeRequest (.unknownKindRequest 3 0x0F []) = some ⟨0x0F, []⟩ ∧ isRequestKind 0x0F = false := by decide +kernel

/-- The journal law bank by bank. -/
theorem journalLaw_of {s : State} (one : OneActive s)
    (a : ((bankAt .bankA s).state ≠ .empty → BankLaw .bankA s) ∧
      ((bankAt .bankA s).state = .sealed ∨ (bankAt .bankA s).state = .empty → carsOn .bankA s = 0))
    (b : ((bankAt .bankB s).state ≠ .empty → BankLaw .bankB s) ∧
      ((bankAt .bankB s).state = .sealed ∨ (bankAt .bankB s).state = .empty → carsOn .bankB s = 0))
    (phantoms : ∀ c ∈ s.entry.table, c.phantom = true → c.bank = none) : JournalLaw s :=
  ⟨one, fun | .bankA => a.1 | .bankB => b.1, fun | .bankA => a.2 | .bankB => b.2, phantoms⟩

/-- The invariants of a run hold with every queue full, with a call outstanding, and the next step has a next state. -/
theorem witness_invariants_full :
    (HaltLaw full ∧ RunFollows full ∧ QueuesFit full ∧ CallLaw full ∧ EmptyLaw full ∧ TableFits full ∧ TicketsFit full ∧
      CommandLaw full) ∧ JournalLaw full ∧ ∃ t, step full = .next t :=
  ⟨by decide +kernel,
    journalLaw_of (by decide +kernel) (by decide +kernel) (by decide +kernel) (by decide +kernel), _, rfl⟩

/-- They hold in a rehearsal and in RESTARTING. -/
theorem witness_invariants_elsewhere :
    (HaltLaw rehearsing ∧ RunFollows rehearsing ∧ CallLaw rehearsing ∧ EmptyLaw rehearsing ∧ TableFits rehearsing ∧
      TicketsFit rehearsing ∧ CommandLaw rehearsing) ∧ JournalLaw rehearsing ∧ (∃ t, step rehearsing = .next t) ∧
    (HaltLaw restarting ∧ EmptyLaw restarting ∧ RunFollows restarting) ∧ ∃ t, step restarting = .next t :=
  ⟨by decide +kernel, journalLaw_of (by decide +kernel) (by decide +kernel) (by decide +kernel) (by decide +kernel),
    ⟨_, rfl⟩, by decide +kernel, _, rfl⟩

/-! ## Witnesses: the Sales Unit -/

/-- A link without a lane names one, with a percent slot; a link in lane 3 names none, with an amount slot and with no slot. -/
theorem witness_quoteBuilds :
    (Ready 0 opened ∧ Ready 1 opened) ∧ maySell 0 0 opened = true ∧ maySell 1 0 opened = true ∧
    (0 < 24 ∧ [1, 0].length ≤ 4 ∧ [1, 0].Nodup ∧ (planRecord 0 opened).region = 0) ∧
    (∀ e ∈ [1, 0], e < 8 ∧ inSet (planRecord 0 opened).allowed e = true ∧ lookup opened.sales.extraAvailable e false = true) ∧
    (∀ k ∈ [0, 1], k < 8 ∧ (discountSlot k opened).kind ≠ .none ∧
      inSet (discountSlot k opened).regions (planRecord 0 opened).region = true) ∧
    lookup opened.sales.planAvailable 0 false = true ∧ opened.supervisor.tunnel = .opened ∧
    ((accessAt 0 opened).lane = none ∧ laneNumber 0 = 1 ∧ (accessAt 1 opened).lane = some (laneNumber 2)) ∧
    opened.sales.tickets.length < 16 ∧ laneCount 0 opened < opened.settings.site.stackLimits.get 0 ∧
    laneCount 2 opened < opened.settings.site.stackLimits.get 2 := by decide +kernel

/-- The tests of R111 in their order: an unset slot, a region the link may not sell, CLOSED, a lane named twice, a withdrawn plan, a full
queue and a full lane. -/
theorem witness_quoteRefused :
    (Ready 0 rig ∧ Ready 1 rig ∧ Ready 2 rig ∧ Ready 1 opened ∧ Ready 0 opened) ∧
    (discountSlot 7 rig).kind = .none ∧ 24 ≤ 24 ∧ 8 ≤ 8 ∧
    maySell 2 (planRecord 0 rig).region rig = false ∧
    (maySell 0 (planRecord 0 rig).region rig = true ∧ rig.supervisor.tunnel = .closed) ∧
    (maySell 1 (planRecord 0 opened).region opened = true ∧ opened.supervisor.tunnel = .opened ∧
      (accessAt 1 opened).lane = some 3 ∧ (accessAt 0 opened).lane = none ∧
      inSet (planRecord 0 opened).allowed 3 = false ∧ inSet (discountSlot 2 opened).regions (planRecord 0 opened).region = false) ∧
    (maySell 0 (planRecord 1 opened).region opened = true ∧ lookup opened.sales.planAvailable 1 false = false ∧
      inSet (planRecord 0 opened).allowed 2 = true ∧ lookup opened.sales.extraAvailable 2 false = false) ∧
    (let s := withTickets ((List.range 16).map fun i => someTicket (i + 1) .stalled) opened
     Ready 0 s ∧ 16 ≤ s.sales.tickets.length ∧ lookup s.sales.planAvailable 0 false = true) ∧
    (let s := withTickets ((List.range 6).map fun i => someTicket (i + 1) .paid) opened
     Ready 0 s ∧ s.sales.tickets.length < 16 ∧ saleLane 0 (some 1) s = some 0 ∧
      s.settings.site.stackLimits.get 0 ≤ laneCount 0 s) := by decide +kernel

/-- Ticket 5 HELD by link 0 and ticket 6 PAID, with ticket 4 in link 0's expired list. -/
def sold (sequence : Nat) : State :=
  { withTickets [{ someTicket 5 .held with tender := none, sequence := none, hold := some 9000 }, someTicket 6 .paid] opened with
    sales.sequenceCounter := sequence
    sales.laneOrders := (Vector.replicate 3 []).set 0 [6]
    sales.expired := (Vector.replicate 4 []).set 0 [4] }

theorem witness_confirmAndCancel :
    (Ready 0 (sold 6) ∧ Ready 1 (sold 6) ∧ Ready 0 (sold 4294967294) ∧ Ready 0 (sold 4294967295)) ∧
    ((findTicket 5 (sold 4294967294)).map (fun k => (k.link, k.state)) = some (0, .held) ∧
      (sold 4294967294).sales.sequenceCounter < 4294967295) ∧
    (findTicket 4 (sold 6) = none ∧ 4 ∈ (sold 6).sales.expired.get 0) ∧
    (findTicket 3 (sold 6) = none ∧ 3 ∉ (sold 6).sales.expired.get 0) ∧
    (findTicket 5 (sold 6)).map (·.link) ≠ some 1 ∧
    (findTicket 6 (sold 6)).map (·.state) = some .paid ∧
    (tenderOf 0 = none ∧ tenderOf 4 = none ∧ tenderOf 3 ≠ none) ∧
    4294967295 ≤ (sold 4294967295).sales.sequenceCounter := by decide +kernel

/-- One ticket of each state, in lane 1, with as many HELD ones again as asked. -/
def everyTicket (more sequence : Nat) : State :=
  { withTickets ([someTicket 1 .held, someTicket 2 .paid, someTicket 3 .called, someTicket 4 .stalled]
      ++ (List.range more).map fun i => someTicket (i + 5) .held) opened with
    sales.stalled := [4]
    sales.sequenceCounter := sequence }

theorem witness_voidAndRequeue :
    (Ready 0 (everyTicket 0 4) ∧ Ready 2 (everyTicket 0 4) ∧ Ready 0 (everyTicket 3 4) ∧ Ready 0 (everyTicket 2 4294967295) ∧
      Ready 0 (everyTicket 2 4294967294)) ∧
    permitted 2 .operate (everyTicket 0 4) = false ∧ permitted 0 .operate (everyTicket 0 4) = true ∧
    findTicket 9 (everyTicket 0 4) = none ∧
    [1, 2, 3, 4].map (fun n => (findTicket n (everyTicket 0 4)).map (·.state))
      = [some .held, some .paid, some .called, some .stalled] ∧
    laneCount 0 (everyTicket 3 4) = (everyTicket 3 4).settings.site.stackLimits.get 0 ∧
    laneCount 0 (everyTicket 2 4) + 1 = (everyTicket 2 4).settings.site.stackLimits.get 0 ∧
    (everyTicket 2 4294967294).sales.sequenceCounter < 4294967295 := by decide +kernel

theorem witness_queries : Ready 0 full ∧ Ready 2 rehearsing ∧ Ready 3 halted ∧ findTicket 99 full = none ∧ findCar 13 full = none ∧
    16 ≤ 16 ∧ 24 ≤ 24 ∧ 8 ≤ 8 ∧ 12 ≤ 12 := by decide +kernel

/-- OPEN with ticket 1 called after a number of lapses, ticket 2 remembered and ticket 3 HELD, each timer with so many units left. -/
def calling (lapses units : Nat) : State :=
  { withTickets [{ someTicket 1 .called with lapses := lapses }, someTicket 2 .stalled,
      { someTicket 3 .held with hold := some units }] opened with
    entry.call := some ⟨1, 0, units⟩
    entry.remembered := some ⟨2, units⟩ }

theorem witness_lapses :
    (∀ n ∈ [1, 2], Settled (calling n 0) ∧ (calling n 0).entry.call = some ⟨1, 0, 0⟩ ∧
      (findTicket 1 (calling n 0)).map (·.lapses) = some n) ∧
    ((calling 1 0).entry.remembered = some ⟨2, 0⟩ ∧
      (findTicket 3 (calling 1 0)).map (fun u => (u.state, u.hold)) = some (.held, some 0)) ∧
    (Settled (calling 1 1) ∧ (calling 1 1).entry.call = some ⟨1, 0, 1⟩ ∧ (calling 1 1).entry.remembered = some ⟨2, 1⟩ ∧
      (findTicket 3 (calling 1 1)).map (fun u => (u.state, u.hold)) = some (.held, some 1)) ∧
    Settled rig ∧ rig.entry.call = none ∧ rig.entry.remembered = none ∧ findTicket 3 rig = none := by decide +kernel

/-! ## Witnesses: the arbiter and the run command -/

/-- OPEN with paid tickets at the heads of lanes 1 and 2, both loops asserted, 11 cars in the table and the newest just gap enough on. -/
def waiting (cars : Nat) (pos : Pos) : State :=
  { withTickets [someTicket 20 .paid, { someTicket 10 .paid with lane := 1 }] opened with
    sales.laneOrders := ((Vector.replicate 3 []).set 0 [20]).set 1 [10]
    entry.loops := ((Vector.replicate 3 false).set 0 true).set 1 true
    entry.table := (List.range cars).map fun i => someCar (i + 1)
    tracker.pos := pos }

theorem witness_arbiter :
    (let s := waiting 11 608
     s.supervisor.tunnel = .opened ∧ s.entry.call = none ∧ s.entry.remembered = none ∧ s.entry.table.length < 12 ∧
      (newestCar s).all (fun c => decide (c.rearExtent + s.settings.site.gap ≤ signedDiff s.tracker.pos c.anchor)) = true ∧
      (newestCar s).isSome ∧
      (s.entry.loops.get 0 = true ∧ s.sales.laneOrders.get 0 = 20 :: [] ∧ findTicket 20 s = some (someTicket 20 .paid)) ∧
      (s.entry.loops.get 1 = true ∧ s.sales.laneOrders.get 1 = 10 :: [] ∧
        findTicket 10 s = some { someTicket 10 .paid with lane := 1 }) ∧ s.entry.loops.get 2 = false ∧
      (10 : Nat) < 20) ∧
    (let s := waiting 11 607
     (newestCar s).all (fun c => decide (signedDiff s.tracker.pos c.anchor < c.rearExtent + s.settings.site.gap)) = true) ∧
    12 ≤ (waiting 12 608).entry.table.length ∧ ∀ l, rig.entry.loops.get l = false := by decide +kernel

theorem witness_runCommand :
    (full.supervisor.tunnel = .opened ∧ full.entry.table ≠ [] ∧ full.tracker.run = true) ∧
    ((waiting 1 0).supervisor.tunnel = .opened ∧ (waiting 1 0).entry.table ≠ [] ∧ (waiting 1 0).tracker.run = false) ∧
    (rig.supervisor.tunnel = .closed ∧ rig.tracker.run = false) ∧
    (inState .halted full).supervisor.tunnel = .halted ∧ (inState .halted full).tracker.run = true := by decide +kernel

/-! ## Witnesses: halts -/

theorem witness_firstCause :
    (full.supervisor.tunnel ≠ .halted ∧ full.supervisor.tunnel ≠ .restarting ∧ RunFollows full ∧ CallLaw full ∧
      (∀ car ∈ full.entry.table, car.phantom = false) ∧ full.entry.call = some ⟨1, 0, 1⟩ ∧ (findTicket 1 full).isSome) ∧
    (archAt 0 full).phase ≠ .following ∧ (archAt 0 full).phase ≠ .spraying ∧
    let s := modifyArch 0 (fun x => { x with phase := .following, engaged := some 1 }) full
    RunFollows s ∧ CallLaw s ∧ (archAt 0 s).phase = .following ∧ (archAt 0 s).engaged = some 1 ∧ (findCar 1 s).isSome := by
  decide +kernel

theorem witness_furtherCauses :
    (halted.supervisor.halt.isSome ∧ halted.supervisor.tunnel = .halted) ∧
    restarting.supervisor.halt.isSome ∧ restarting.supervisor.tunnel = .restarting := by decide +kernel

theorem witness_haltAndEstop :
    Settled rig ∧ LinkFree 0 rig ∧ permitted 0 .operate rig = true ∧ LinkFree 2 rig ∧ permitted 2 .operate rig = false ∧
    rig.supervisor.estop = false ∧ Settled { rig with supervisor.estop := true } := by decide +kernel

theorem witness_firstConfirmation :
    (Ready 2 halted ∧ permitted 2 .restart halted = false) ∧
    (Ready 0 rig ∧ permitted 0 .restart rig = true ∧ rig.supervisor.tunnel = .closed) ∧
    (Ready 0 halted ∧ permitted 0 .restart halted = true ∧ halted.supervisor.tunnel = .halted ∧ halted.supervisor.halt.isSome) ∧
    (Settled restarting ∧ HaltLaw restarting ∧ restarting.supervisor.restart = some ⟨0, 0⟩ ∧ restarting.supervisor.halt.isSome) ∧
    (let s := { restarting with supervisor.restart := some ⟨0, 1⟩ }
     Settled s ∧ HaltLaw s) ∧
    Settled halted ∧ HaltLaw halted ∧ halted.supervisor.tunnel ≠ .restarting := by decide +kernel

theorem witness_secondRestart :
    (Ready 0 restarting ∧ permitted 0 .restart restarting = true ∧ Ready 3 restarting ∧ permitted 3 .restart restarting = true) ∧
    (restarting.supervisor.tunnel = .restarting ∧ restarting.supervisor.restart = some ⟨0, 0⟩ ∧
      restarting.supervisor.halt.map (·.resume) = some .opened) ∧
    (restarting.supervisor.estop = false ∧ restarting.entry.entryClosed = false ∧ restarting.entry.exitClosed = false ∧
      (∀ a, (archAt a restarting).phase = .parked ∨ (archAt a restarting).outOfService = true) ∧
      ∀ c ∈ restarting.entry.table, c.missing = false) ∧
    Ready 3 { restarting with entry.exitClosed := true } := by decide +kernel

theorem witness_openTunnel :
    (Ready 2 rig ∧ permitted 2 .operate rig = false) ∧
    (Ready 0 State.reset ∧ permitted 0 .operate State.reset = true ∧ State.reset.store.unconfigured = true) ∧
    (Ready 0 rig ∧ permitted 0 .operate rig = true ∧ rig.supervisor.tunnel = .closed ∧ rig.store.unconfigured = false ∧
      layoutValid rig = true) ∧
    (Ready 0 { rig with settings.site.gap := 189 } ∧ layoutValid { rig with settings.site.gap := 189 } = false ∧
      layoutValid { rig with settings.site.gap := 190 } = true) ∧
    (∀ t ∈ [TunnelState.closing, .opened, .rehearsal], Ready 0 (inState t rig) ∧ permitted 0 .operate (inState t rig) = true) ∧
    ∀ r ∈ [TunnelState.closing, .opened, .closed],
      (Ready 0 (underHalt .halted r rig) ∧ permitted 0 .operate (underHalt .halted r rig) = true) ∧
      Ready 0 { underHalt .restarting r rig with supervisor.restart := some ⟨0, 1⟩ } := by decide +kernel

theorem witness_closeTunnel :
    (Ready 2 opened ∧ permitted 2 .operate opened = false) ∧
    (Ready 0 opened ∧ permitted 0 .operate opened = true ∧ opened.entry.call = none ∧ opened.entry.table = []) ∧
    (Ready 1 full ∧ permitted 1 .operate full = true ∧ full.supervisor.tunnel = .opened ∧ full.entry.call = some ⟨1, 0, 1⟩ ∧
      findTicket 1 full = some (someTicket 1 .called) ∧ full.entry.table ≠ []) ∧
    (∀ t ∈ [TunnelState.closing, .closed, .rehearsal], Ready 0 (inState t rig)) ∧
    ∀ r ∈ [TunnelState.closing, .opened, .closed], Ready 0 (underHalt .halted r rig) := by decide +kernel

theorem witness_clearTunnel :
    (Ready 2 rig ∧ permitted 2 .operate rig = false) ∧
    (Ready 0 opened ∧ permitted 0 .operate opened = true ∧ opened.supervisor.tunnel ≠ .closed ∧ opened.supervisor.tunnel ≠ .halted) ∧
    (let s := { halted with supervisor.estop := true }
     Ready 0 s ∧ permitted 0 .operate s = true ∧ s.supervisor.tunnel = .halted ∧ s.supervisor.estop = true) ∧
    (let s := withCars [someCar 1] halted
     Ready 0 s ∧ permitted 0 .operate s = true ∧ s.supervisor.tunnel = .halted ∧ s.supervisor.estop = false ∧
      s.supervisor.halt.isSome) ∧
    Ready 0 rig ∧ permitted 0 .operate rig = true ∧ rig.supervisor.tunnel = .closed ∧ rig.entry.table = [] := by decide +kernel

theorem witness_pullCar :
    (Ready 2 halted ∧ permitted 2 .operate halted = false) ∧
    (Ready 0 opened ∧ permitted 0 .operate opened = true ∧ opened.supervisor.tunnel = .opened) ∧
    (Ready 0 halted ∧ permitted 0 .operate halted = true ∧ findCar 1 halted = none) ∧
    let s := withCars [someCar 1, someCar 2] restarting
    Ready 0 s ∧ permitted 0 .operate s = true ∧ s.supervisor.tunnel = .restarting ∧ findCar 2 s = some (someCar 2) ∧
      s.supervisor.halt.isSome := by decide +kernel

theorem witness_removal :
    (archAt 1 full).engaged ≠ some (someCar 1).number ∧ { someCar 1 with phantom := true }.phantom = true := by decide +kernel

theorem witness_recomputation :
    ((recomputeClass rig).tracker.commanded ≠ rig.tracker.commanded) ∧
    let s := { rig with settings.site.cap := 1 }
    (recomputeClass s).tracker.commanded = s.tracker.commanded := by decide +kernel

/-! ## Witnesses: the Arch Channels -/

/-- The part with arch 0 in a phase. -/
def withArch (phase : ArchPhase) (engaged : Option Nat) (s : State) : State :=
  modifyArch 0 (fun x => { x with phase := phase, engaged := engaged }) s

theorem witness_archService :
    (Ready 2 rig ∧ permitted 2 .operate rig = false ∧ Ready 0 rig ∧ permitted 0 .operate rig = true) ∧
    ((layoutAt 11 rig).kind = .unused ∧ (layoutAt 0 rig).kind ≠ .unused) ∧
    (archAt 0 rig).outOfService = false ∧ (archAt 0 rig).phase = .parked ∧
    (let s := modifyArch 0 (fun x => { x with outOfService := true }) rig
     Ready 0 s ∧ (archAt 0 s).outOfService = true) ∧
    (let s := withArch .following (some 1) full
     Ready 1 s ∧ permitted 1 .operate s = true ∧ (archAt 0 s).outOfService = false ∧ (archAt 0 s).phase = .following ∧
      (archAt 0 s).engaged = some 1) ∧
    (Ready 0 (withArch .jammed none rig) ∧ (archAt 0 (withArch .jammed none rig)).phase = .jammed ∧
      (archAt 0 (withArch .jammed none rig)).homeClosed = true) ∧
    let s := modifyArch 0 (fun x => { x with homeClosed := false }) (withArch .jammed none rig)
    Ready 0 s ∧ (archAt 0 s).homeClosed = false := by decide +kernel

/-- A record that passes, one whose kind is none, one whose slew is below its range, one too near the gauge. -/
theorem witness_setArch :
    (Ready 1 rig ∧ permitted 1 .configure rig = true ∧ Ready 2 rig ∧ permitted 2 .configure rig = false) ∧
    (Ready 0 opened ∧ permitted 0 .configure opened = true ∧ opened.supervisor.tunnel ≠ .closed) ∧
    rig.supervisor.tunnel = .closed ∧ layoutOf ⟨6, 0, 0, 0, 0, 0, 0, 0, 50, 10, 1, 1, 1⟩ = none ∧
    (layoutOf ⟨1, 3, 400, 20, 20, 24, 200, 2400, 49, 100, 200, 1, 1⟩).map layoutFieldsOk = some false ∧
    (layoutOf ⟨4, 4, 307, 20, 20, 0, 0, 0, 50, 10, 1, 1, 1⟩).map (fun r =>
      layoutChecks (modifyAt rig.settings.layouts 2 fun _ => r) rig.settings.site) = some false ∧
    (layoutOf ⟨4, 4, 308, 20, 20, 0, 0, 0, 50, 10, 1, 1, 2⟩).map (fun r => (layoutFieldsOk r,
      layoutChecks (modifyAt rig.settings.layouts 2 fun _ => r) rig.settings.site)) = some (true, true) := by decide +kernel

theorem witness_archLines :
    Settled (withArch .returning none rig) ∧ (archAt 0 (withArch .returning none rig)).phase = .returning ∧
    Settled rig ∧ (archAt 0 rig).phase ≠ .returning ∧
    (archAt 0 (withArch .returning none rig)).timer ≠ some 0 ∧
    let s := modifyArch 0 (fun x => { x with timer := some 0 }) (withArch .returning none rig)
    Settled s ∧ (archAt 0 s).phase = .returning ∧ (archAt 0 s).timer = some 0 := by decide +kernel

/-- The clauses on insertion: a PENDING status, a settled one and none at an arch that is UNUSED; on firing: an entry due and one not; on
order: a RELEASE before another car's ENGAGE, one car's ENGAGE before its RELEASE, and the older car first. -/
theorem witness_engageAndRelease :
    (findCar 1 full = some (someCar 1) ∧ (someCar 1).origin = some 0 ∧ (layoutAt 0 full).kind ≠ .unused ∧
      (layoutAt 1 full).kind ≠ .unused ∧ (someCar 1).statuses.get 1 = none ∧ (layoutAt 11 full).kind = .unused) ∧
    ((findCar 1 (setStatus 1 0 .omitted full)).map (·.statuses.get 0) = some (some .omitted)) ∧
    (0 ≤ signedDiff 380 380 ∧ ¬ 0 ≤ signedDiff 379 380) ∧
    (([1, 2] : List Nat).idxOf 1 < ([1, 2] : List Nat).idxOf 2 ∧
      (ArchEvent.mk 380 1 .release).position = (ArchEvent.mk 380 2 .engage).position) ∧
    ((someCar 1).statuses.get 1 ≠ some .pending ∧
      (someCar 1).statuses.get 0 = some .pending ∧ (someCar 1).statuses.get 0 ≠ some .active) ∧
    ((archAt 0 (withArch .jammed none full)).phase = .jammed ∧ (findCar 1 (withArch .jammed none full)).isSome) ∧
    ((archAt 0 full).outOfService = false ∧ (archAt 0 full).phase ≠ .jammed ∧ (archAt 0 full).engaged = none ∧
      full.supervisor.tunnel = .opened) ∧
    ((findCar 1 (inState .halted full)).isSome ∧ (inState .halted full).supervisor.tunnel = .halted) ∧
    ((archAt 0 (withArch .following (some 2) full)).engaged ≠ none ∧ (findCar 1 (withArch .following (some 2) full)).isSome) ∧
    let s := setStatus 1 0 .active (withArch .following (some 1) full)
    (findCar 1 s).map (·.statuses.get 0) = some (some .active) ∧ (archAt 0 s).engaged = some 1 ∧
      (findCar 1 (fireRelease 0 1 s)).isSome := by decide +kernel

/-- Arch 0 FOLLOWING car 1 after a load code, an over count, trips and the car's tags. -/
def loaded (code : Byte) (once : Bool) (trips : Nat) (out : Bool) (tags : List Tag) : State :=
  modifyCar 1 (fun c => { c with tags := tags })
    (modifyArch 0 (fun x => { x with overOnce := once, trips := trips, outOfService := out })
      (loadCode 0 code (withArch .following (some 1) full)))

/-- Under the threshold, at it once, and at it twice with 1 trip, with 2, out of service, and with a car whose tags are none, full without
the trip and hold it. -/
theorem witness_overLoad :
    ((archAt 0 full).phase ≠ .following ∧ rehearsing.supervisor.tunnel = .rehearsal) ∧
    (let t := loaded 199 false 0 false []
     (archAt 0 t).engaged = some 1 ∧ (archAt 0 t).phase = .following ∧ t.supervisor.tunnel ≠ .rehearsal ∧
      (archAt 0 t).loadLine < (layoutAt 0 t).tripThreshold) ∧
    (let t := loaded 200 false 0 false []
     (layoutAt 0 t).tripThreshold ≤ (archAt 0 t).loadLine ∧ (archAt 0 t).overOnce = false) ∧
    ∀ x ∈ [(1, false), (2, false), (2, true)], ∀ tags ∈ [[], [Tag.halted, .steep, .unbidden, .closeFollow], [Tag.archTrip 0]],
      let t := loaded 200 true x.1 x.2 tags
      (archAt 0 t).overOnce = true ∧ (archAt 0 t).trips = x.1 ∧ (archAt 0 t).outOfService = x.2 ∧
        (findCar 1 t).map (·.tags) = some tags ∧ (findCar 1 (loadCheck 0 t)).isSome := by decide +kernel

/-- Arch 0 FOLLOWING the phantom, traced or not, with so many entries written and held. -/
def tracing (traced : Option (Fin 12)) (count : Nat) : State :=
  { withArch .following (some 9) rehearsing with
    rehearsal := { rehearsing.rehearsal with traced := traced, written := count }
    trace := List.replicate (min count 64) ⟨1, 0, 0, 0, 0⟩ }

theorem witness_following :
    ((archAt 0 full).phase ≠ .following) ∧
    (let s := withArch .following (some 1) full
     (archAt 0 s).engaged = some 1 ∧ (archAt 0 s).phase = .following ∧ findCar 1 s = some (someCar 1) ∧
      (someCar 1).origin = some 0 ∧ s.supervisor.tunnel ≠ .rehearsal) ∧
    (∀ x ∈ [(none, 0), (some 0, 63), (some 0, 64), (some 0, 65534), (some 0, 65535)],
      let s := tracing x.1 x.2
      (archAt 0 s).engaged = some 9 ∧ (archAt 0 s).phase = .following ∧ (findCar 9 s).map (·.origin) = some (some 0) ∧
        s.supervisor.tunnel = .rehearsal ∧ s.rehearsal.traced = x.1 ∧ s.rehearsal.written = x.2) ∧
    (followStep 0 400 1 (tracing (some 0) 64)).trace.length = 64 := by decide +kernel

theorem witness_interpolation :
    ([5] : List Nat) ≠ [] ∧ ([5, 9] : List Nat) ≠ [] ∧ (0 : Int) ≤ 0 ∧ (8 * ((([5, 9] : List Nat).length : Int) - 1) ≤ 8) ∧
    (0 : Int) < 8 ∧ 1 < ([5, 9] : List Nat).length ∧ 0 + 1 < ([5, 9] : List Nat).length ∧ 0 < 1 ∧ 7 < 8 ∧ (0 : Int) < 8 * (1 : Int)
      ∧ 8 * (1 : Int) < 0 + (9 : Nat) := by decide

/-- A car with two samples and a following status, one with none, one in the domain with its status settled. -/
theorem witness_class :
    (1 ≤ (someCar 1).maxClass ∧ 4 ≤ (someCar 1).maxClass ∧
      classOf rig { someCar 1 with requirements := Vector.replicate 12 16 } < 4) ∧
    ((someCar 1).samples = [] ++ [⟨1500, 800, 800⟩, ⟨1600, 800, 800⟩] ∧ findCar 1 full = some (someCar 1) ∧
      (findCar 1 (paceSample 1 full)).isSome) ∧
    (followingArch 0 full = true ∧ (someCar 1).statuses.get 0 = some .pending ∧ followingArch 1 full = false) ∧
    (let s := withCars [{ someCar 1 with statuses := Vector.replicate 12 none }] opened
     (findCar 1 s).map (fun c => decide (∀ a, c.statuses.get a = none)) = some true) ∧
    let s := withCars [{ someCar 1 with inDomain := true, statuses := (Vector.replicate 12 none).set 0 (some .done) }] opened
    (findCar 1 s).map (fun c => (c.inDomain, c.statuses.get 0)) = some (true, some .done) := by decide +kernel

/-! ## Witnesses: the catalog and the settings -/

def blank16 : List Byte := List.replicate 16 0
/-- A part with plan 5 and plan 7 locked. -/
def locked : State := { rig with locks := [(5, 5), (7, 7)] }

theorem witness_catalogEdits :
    (Ready 0 locked ∧ permitted 0 .configure locked = true ∧ (15 : Nat) < 16 ∧ nameOk 12 (List.replicate 12 0x7E) = true) ∧
    (mayEdit 0 (planRecord 6 locked).region locked = true ∧ mayEdit 0 3 locked = true ∧ (∀ r ∈ locked.locks, 6 < r.1 ∨ r.2 < 6) ∧
      planOk { somePlan with name := blank16, region := 3, price := 99999 } = true) ∧
    (∀ p ∈ locked.settings.plans.toList, inSet p.allowed 7 = false) ∧ mayEditSome 0 locked = true ∧
    (∀ p ∈ locked.settings.plans.toList, inSet p.allowed 0 = true → mayEdit 0 p.region locked = true) ∧
    extraOk { blankExtra with name := blank16, price := 99999 } = true ∧
    (∀ m, m < 8 → inSet (discountSlot 0 locked).regions m = true ∨ inSet (0x0F : Byte) m = true → mayEdit 0 m locked = true) ∧
    discountOfArg ⟨3, 100, 0x0F⟩ = some ⟨.percent, 100, 0x0F⟩ ∧ (discountSlot 7 locked).regions = 0 ∧
    discountOfArg ⟨1, 0, 0⟩ = some ⟨.none, 0, 0⟩ ∧
    (23 : Nat) ≤ 23 ∧ locked.locks.length < 4 := by decide +kernel

theorem witness_catalogRefusals :
    (Ready 2 locked ∧ permitted 2 .configure locked = false ∧ Ready 0 locked ∧ permitted 0 .configure locked = true) ∧
    (16 ≤ 16 ∧ nameOk 12 [0x1F] = false ∧ nameOk 12 [0x7F] = false ∧ 24 ≤ 24) ∧
    mayEdit 2 (planRecord 23 locked).region locked = false ∧
    (mayEdit 0 (planRecord 7 locked).region locked = true ∧ mayEdit 0 0 locked = true ∧ ∃ r ∈ locked.locks, r.1 ≤ 7 ∧ 7 ≤ r.2) ∧
    (planOk { somePlan with price := 100000 } = false ∧ ∀ r ∈ locked.locks, 23 < r.1 ∨ r.2 < 23) ∧
    (mayEditExtra 2 7 locked = false ∧ mayEditExtra 0 7 locked = true ∧ extraOk { blankExtra with price := 100000 } = false) ∧
    (mayEditDiscount 2 7 0 locked = false ∧ mayEditDiscount 0 7 1 locked = true ∧ discountOfArg ⟨3, 101, 1⟩ = none) ∧
    Ready 0 { locked with locks := [(0, 0), (1, 1), (2, 2), (3, 3)] } := by decide +kernel

theorem witness_siteSettings :
    (Ready 2 rig ∧ permitted 2 .configure rig = false ∧ Ready 0 opened ∧ permitted 0 .configure opened = true ∧
      opened.supervisor.tunnel ≠ .closed) ∧
    (Ready 0 rig ∧ permitted 0 .configure rig = true ∧ rig.supervisor.tunnel = .closed) ∧
    ([4096].length = 1 ∧ (4095 : Nat) < 4096 ∧ 256 < 255 + [1, 2].length) ∧
    (¬ ([4095].length < 1 ∨ 64 < [4095].length ∨ 256 < 255 + [4095].length ∨ ∃ v ∈ [4095], 4095 < v)) ∧
    (siteOk { defaultSite with cap := 5 } = false ∧ siteOk defaultSite = true ∧
      ¬ ∃ m : Fin 3, defaultSite.stackLimits.get m < laneCount m rig) ∧
    (let s := withTickets ((List.range 7).map fun i => someTicket (i + 1) .paid) rig
     Ready 0 s ∧ ∃ m : Fin 3, defaultSite.stackLimits.get m < laneCount m s) ∧
    (subset 0x10 0x0F = false ∧ subset 0x0F 0x0F = true) ∧
    (let only := modifyAt (modifyAt rig.settings.access 0 fun e => { e with permissions := 0 }) 1 fun e => { e with permissions := 0 }
     let table := modifyAt only 3 fun e => { e with permissions := 0x07 }
     ∀ k : Fin 4, inSet (table.get k).permissions 3 = false) ∧
    let table := modifyAt rig.settings.access 3 fun _ => { openAccess with lane := some 3 }
    ¬ ∀ k : Fin 4, inSet (table.get k).permissions 3 = false := by decide +kernel

/-- Profile 0 staged by link 0: 4 of 6 samples held, 2 next. -/
def staged : State := { rig with station.staging := (Vector.replicate 2 none).set 0 (some ⟨0, 6, 4, List.replicate 4 ⟨1, 1, 1⟩⟩) }

theorem witness_testProfiles :
    (Ready 2 staged ∧ permitted 2 .configure staged = false ∧ Ready 0 staged ∧ permitted 0 .configure staged = true ∧ Ready 1 staged ∧
      permitted 1 .configure staged = true) ∧
    (2 ≤ 2 ∧ (1 : Nat) < 2 ∧ 96 < 97 ∧ ¬ ((96 : Nat) < 2 ∨ 96 < 96 ∨ (16 : Nat) < 1 ∨ 16 < 16 ∨ (96 : Nat) < 16)) ∧
    (staged.station.staging.get 1 = none ∧ (staged.station.staging.get 0).map (·.link) = some 0) ∧
    (staged.station.staging.get 0).map (fun g => (g.length, g.next)) = some (6, 4) ∧ 6 < 4 + 3 ∧
    (¬ ((6 : Nat) ≠ 6 ∨ (4 : Nat) ≠ 4 ∨ (2 : Nat) < 1 ∨ 16 < 2 ∨ (6 : Nat) < 4 + 2)) ∧
    ¬ ∃ x ∈ [(⟨4095, 4095, 4095⟩ : Sample)], 4095 < x.top ∨ 4095 < x.left ∨ 4095 < x.right := by decide +kernel

/-- A save in flight at a stage, its timer with so many units left. -/
def saving (stage : SaveStage) (units : Nat) : State := { rig with store.save := some ⟨rigSettings, stage, units⟩ }

theorem witness_save :
    (Settled rig ∧ LinkFree 2 rig ∧ permitted 2 .configure rig = false ∧ LinkFree 0 rig ∧ permitted 0 .configure rig = true ∧
      rig.store.save = none) ∧
    ∀ k ∈ [SaveStage.erasing, .writing, .verifying], ∀ n ∈ [0, 1], Settled (saving k n) ∧ LinkFree 0 (saving k n) ∧
      permitted 0 .configure (saving k n) = true ∧ (saving k n).store.save.map (fun x => (x.stage, x.timer)) = some (k, n) := by
  decide +kernel

/-! ## Witnesses: the journal and a rehearsal -/

/-- Bank A ACTIVE and bank B SEALED with two records, one of them read. -/
def banked : State :=
  let r : JournalRecord := ⟨1, some 1, none, some 0, some 0, [], none, 1899, some .cash, .voided, none, none, [], [], 0, none⟩
  { rig with journal.bankB := { zeroedBank .sealed with
      written := 2
      unread := 1
      cursor := 1
      voided := 2
      records := [r, { r with sequence := 2 }] } }

theorem witness_banks :
    (Ready 0 rig ∧ OneActive rig ∧ (bankAt .bankA rig).state = .active ∧ permitted 0 .closeout rig = true ∧
      (bankAt (otherBank .bankA) rig).state = .empty) ∧
    (Ready 2 banked ∧ permitted 2 .closeout banked = false) ∧
    (Ready 0 banked ∧ OneActive banked ∧ permitted 0 .closeout banked = true ∧ (bankAt (otherBank .bankA) banked).state ≠ .empty ∧
      (bankAt .bankA banked).state ≠ .sealed ∧ (bankAt .bankB banked).state = .sealed) ∧
    (bankCode .bankB = 2 ∧ 2 < 3 ∧ (bankAt .bankB banked).unread ≠ 0 ∧ (bankAt .bankB banked).written = 2) ∧
    let s := modifyBank .bankB (fun k => { k with unread := 0, cursor := 2 }) banked
    Ready 0 s ∧ OneActive s ∧ (bankAt .bankB s).state = .sealed ∧ (bankAt .bankB s).unread = 0 := by decide +kernel

/-- A phantom, a car without a bank, and a car whose service is DONE, SKIPPED, PENDING, OMITTED and held at no arch; a bank with room for
one, a full bank before and after its first overflow. -/
theorem witness_records :
    ({ someCar 1 with phantom := true }.phantom = true ∧ { someCar 1 with bank := none }.bank = none) ∧
    ((someCar 1).phantom = false ∧ (someCar 1).bank = some .bankA ∧ (someCar 1).profile = .complete ∧
      { someCar 1 with profile := .absent }.profile = .absent) ∧
    ([some ArchStatus.done, some .skipped, some .pending, some .omitted, none].map fun st =>
        (serviceResults rig { someCar 1 with statuses := (Vector.replicate 12 none).set 0 st }).map (·.2))
      = [[.done], [.skipped], [.skipped], [.omitted], [.omitted]] ∧
    (bankAt .bankA (modifyBank .bankA (fun k => { k with written := 255 }) rig)).written < 256 ∧
    ∀ before ∈ [false, true],
      let k := bankAt .bankB (modifyBank .bankB (fun k => { k with written := 256, overflowed := before }) banked)
      256 ≤ k.written ∧ k.overflowed = before ∧ k.records.getLast?.isSome := by decide +kernel

theorem witness_rehearse :
    (Ready 2 rig ∧ permitted 2 .operate rig = false ∧ Ready 0 rig ∧ permitted 0 .operate rig = true) ∧
    (2 ≤ 2 ∧ 24 ≤ 24 ∧ ∃ a ∈ some 12, 12 ≤ a) ∧
    (Ready 0 opened ∧ opened.supervisor.tunnel ≠ .closed) ∧
    (testProfile 1 rig = none ∧ rig.supervisor.tunnel = .closed) ∧
    (followingArch 1 rig = false ∧ followingArch 0 rig = true ∧ (testProfile 0 rig).isSome ∧ rig.store.unconfigured = false ∧
      layoutValid rig = true) ∧
    rig.entry.table = [] ∧ rig.tracker.run = false ∧
    (phantomCar rehearsing = rehearsing.entry.table.head? ∧ (phantomCar rehearsing).isSome ∧
      rehearsing.supervisor.tunnel = .rehearsal ∧ 0 ≤ signedDiff 0 rehearsing.rehearsal.endPos ∧
      signedDiff 65535 rehearsing.rehearsal.endPos < 0) := by decide +kernel

/-! ## Witnesses: the links -/

/-- The part with link 0 in a receiver state. -/
def receiving (r : Receiver) : State := modifyLink 0 (fun k => { k with receiver := r, timer := some 0 }) rig
/-- The part with a response that waits on link 0, and a frame pending there or not. -/
def busyLink (frame : Option Frame) (r : Receiver) : State :=
  modifyLink 0 (fun k => { k with waiting := some ⟨0x20, .ok, []⟩, pendingFrame := frame, queue := List.replicate 250 0 }) (receiving r)

theorem witness_receiver :
    (Settled rig ∧ (linkAt 0 rig).receiver = .hunt ∧ (linkAt 0 rig).timer = none) ∧
    (Settled (receiving .length) ∧ (linkAt 0 (receiving .length)).receiver = .length ∧
      (linkAt 0 (receiving .length)).timer = some 0) ∧
    ((1 : Byte).toNat = 1 ∧ (120 : Byte).toNat ≤ 120 ∧ 120 < (121 : Byte).toNat ∧ (0 : Byte).toNat = 0) ∧
    (Settled (receiving (.body 2 [])) ∧ (linkAt 0 (receiving (.body 2 []))).receiver = .body 2 [] ∧
      ([] : List Byte).length + 1 < 2 ∧ 2 ≤ ([0x21] : List Byte).length + 1) ∧
    (let s := receiving (.check 1 [0x20])
     Settled s ∧ LinkFree 0 s ∧ (linkAt 0 s).receiver = .check 1 (0x20 :: []) ∧
      ([0x20] : List Byte).foldl (· + ·) (BitVec.ofNat 8 1) + 0xDF = 0 ∧
      ([0x20] : List Byte).foldl (· + ·) (BitVec.ofNat 8 1) + 0xDE ≠ 0) ∧
    (let s := busyLink none (.check 1 [0x20])
     Settled s ∧ (linkAt 0 s).receiver = .check 1 (0x20 :: []) ∧ (linkAt 0 s).waiting.isSome ∧ (linkAt 0 s).pendingFrame = none) ∧
    let s := busyLink (some ⟨0x20, []⟩) (.check 1 [0x20])
    Settled s ∧ (linkAt 0 s).waiting.isSome ∧ (linkAt 0 s).pendingFrame.isSome := by decide +kernel

/-- What a frame spells. -/
def spelt (l : Fin 4) (f : Frame) : Option Instr := (decodeRequest l f).toOption
/-- Why a frame is refused. -/
def whyNot (l : Fin 4) (f : Frame) : Option Status := match decodeRequest l f with | .ok _ => none | .error st => some st

theorem witness_receiver_frames : spelt 0 ⟨0x20, []⟩ = some (.halt 0) ∧ whyNot 0 ⟨0x20, [1]⟩ = some .invalid ∧
    whyNot 0 ⟨0x60, []⟩ = some .unknown := by decide +kernel

theorem witness_framesWait :
    (requestLink (.halt 0) = some 0 ∧ encodeRequest (.halt 0) = some ⟨0x20, []⟩) ∧
    (Settled (busyLink none .hunt) ∧ (linkAt 0 (busyLink none .hunt)).waiting.isSome ∧
      (linkAt 0 (busyLink none .hunt)).pendingFrame = none) ∧
    (Settled (busyLink (some ⟨0x20, []⟩) .hunt) ∧ (linkAt 0 (busyLink (some ⟨0x20, []⟩) .hunt)).pendingFrame.isSome) ∧
    (let s := modifyLink 0 (fun k => { k with pendingFrame := some ⟨0x20, []⟩ }) rig
     Settled s ∧ (linkAt 0 s).waiting = none ∧ (linkAt 0 s).pendingFrame = some ⟨0x20, []⟩) ∧
    isRequestKind 0xFF = false ∧ LinkFree 0 rig := by decide +kernel

theorem witness_responses :
    (let s := busyLink none .hunt
     Settled s ∧ (linkAt 0 s).waiting = some ⟨0x20, .ok, []⟩ ∧
      (linkAt 0 s).queue.length + (responseFrame ⟨0x20, .ok, []⟩ (linkAt 0 s) s).length = 256) ∧
    (let s := modifyLink 0 (fun k => { k with queue := List.replicate 251 0 }) (busyLink none .hunt)
     Settled s ∧ 256 < (linkAt 0 s).queue.length + (responseFrame ⟨0x20, .ok, []⟩ (linkAt 0 s) s).length) ∧
    (Settled rig ∧ (linkAt 0 rig).waiting = none) ∧
    (inSet (accessAt 2 rig).subscriptions 0 = false ∧ inSet (accessAt 0 rig).subscriptions 0 = true) ∧
    (linkAt 0 rig).queue.length + (frameBytes 0x60 []).length ≤ 256 ∧ (linkAt 0 (busyLink none .hunt)).waiting.isSome := by
  decide +kernel

/-! ## Witnesses: the conveyor, the treadles, the station, the starts -/

theorem witness_forwardPitch : full.powered = true ∧ (1 : Fin 4) = full.tracker.phase + 1 ∧
    0 < signedDiff (full.tracker.pos + 1) full.tracker.high ∧ signedDiff ((0 : Pos) + 1) 1 ≤ 0 ∧
    (([.arch 3, .supervisor, .station, .supervisor] : List PitchBlock).filter (· ≠ .supervisor)).Nodup := by decide +kernel

/-- The conveyor some pitches behind its highest position. -/
def behind (n : Pos) (flag : Bool) : State :=
  { rig with tracker.high := n, tracker.rolledBack := flag, tracker.stall := some 0, entry.roller := some 0 }

theorem witness_reverse :
    (Settled (behind 7 false) ∧
      ¬ ((behind 7 false).settings.site.rollback : Int) < signedDiff (behind 7 false).tracker.high ((behind 7 false).tracker.pos - 1)) ∧
    (Settled (behind 8 false) ∧ (behind 8 false).tracker.rolledBack = false ∧
      ((behind 8 false).settings.site.rollback : Int) < signedDiff (behind 8 false).tracker.high ((behind 8 false).tracker.pos - 1)) ∧
    (Settled (behind 8 true) ∧ (behind 8 true).tracker.rolledBack = true) ∧
    ((behind 8 true).tracker.stall = some 0 ∧ (behind 8 true).entry.roller = some 0) ∧
    Settled rig ∧ rig.tracker.stall ≠ some 0 ∧ rig.entry.roller ≠ some 0 := by decide +kernel

theorem witness_entryTreadle :
    (Settled { rig with entry.entryWheel := .rear 5 } ∧ rig.entry.entryWheel = .front) ∧
    (Settled halted ∧ halted.entry.entryWheel = .front ∧ halted.supervisor.halt.isSome) ∧
    (Settled rig ∧ rig.supervisor.tunnel = .closed) ∧
    (Settled rehearsing ∧ rehearsing.entry.entryWheel = .front ∧ rehearsing.supervisor.tunnel = .rehearsal) ∧
    Settled full ∧ full.entry.entryWheel = .front ∧ 12 ≤ full.entry.table.length := by decide +kernel

/-- OPEN with a car whose rear is 300 pitches past the treadle, and a ticket called, remembered or neither. -/
def arriving (call : Option Call) (remembered : Option Remembered) (pos : Pos) : State :=
  { withTickets [someTicket 1 .called] (withCars [someCar 3] opened) with
    entry.call := call
    entry.remembered := remembered
    entry.signals := if call.isSome then (Vector.replicate 3 false).set 0 true else Vector.replicate 3 false
    tracker.pos := pos }

theorem witness_admission :
    (let s := arriving (some ⟨1, 0, 1⟩) none 608
     Settled s ∧ CallLaw s ∧ s.entry.entryWheel = .front ∧ s.supervisor.tunnel = .opened ∧ s.entry.table.length < 12 ∧
      (∀ c ∈ s.entry.table, c.phantom = false) ∧ closeFollows s = false ∧ (s.entry.call.bind fun k => findTicket k.ticket s).isSome) ∧
    (let s := arriving none (some ⟨1, 1⟩) 608
     Settled s ∧ CallLaw s ∧ s.entry.call = none ∧ gapNow s = true ∧ (∀ c ∈ s.entry.table, c.phantom = false) ∧
      (s.entry.remembered.bind fun r => findTicket r.ticket s).isSome) ∧
    let s := arriving none (some ⟨1, 1⟩) 607
    Settled s ∧ CallLaw s ∧ gapNow s = false ∧ closeFollows s = true ∧ ∀ c ∈ s.entry.table, c.phantom = false := by decide +kernel

/-- A car some pitches in, in a tunnel state. -/
def leaving (pos : Pos) (s : State) : State := { withCars [someCar 3, someCar 4] s with tracker.pos := pos }

theorem witness_exitTreadle :
    (Settled { rig with entry.exitWheel := .rear 5 }) ∧
    (Settled (leaving 2360 opened) ∧ (leaving 2360 opened).entry.exitWheel = .front ∧
      (2400 : Int) - 40 ≤ signedDiff 2360 (someCar 3).anchor ∧ (someCar 3).phantom = false) ∧
    (Settled (leaving 2440 halted) ∧ signedDiff 2440 (someCar 3).anchor ≤ (2400 : Int) + 40 ∧
      (leaving 2440 halted).supervisor.tunnel = .halted) ∧
    (Settled (leaving 2359 halted) ∧ signedDiff 2359 (someCar 3).anchor < (2400 : Int) - 40 ∧
      (leaving 2359 halted).supervisor.halt.isSome) ∧
    (Settled (leaving 2441 opened) ∧ (2400 : Int) + 40 < signedDiff 2441 (someCar 3).anchor ∧ (someCar 3).missing = false) ∧
    Settled (withCars [{ someCar 3 with missing := true }] opened) := by decide +kernel

/-- A car whose front is watched for. -/
def searched : State :=
  { withCars [{ someCar 3 with profile := .waiting, origin := none, samples := [] }] opened with station.watch := .searching 3 }
/-- A car being sampled, sample `next` to come. -/
def sampled (next : Nat) (absent : Bool) : State :=
  { withCars [{ someCar 3 with profile := .measuring }] opened with
    station.watch := .sampling 3 300 next absent ⟨1600, 800, 800⟩ }

theorem witness_station :
    ((findCar 3 searched).isSome ∧ searched.station.watch = .searching 3 ∧ searched.settings.site.gaugeOffset = 300) ∧
    (signedDiff 149 0 < (300 : Int) - 150 ∧ (300 : Int) - 150 ≤ signedDiff 150 0 ∧ signedDiff 316 0 ≤ (300 : Int) + 16 ∧
      (300 : Int) + 16 < signedDiff 317 0) ∧
    ((findCar 3 (stationPitch 150 ⟨19, 0, 50⟩ searched)).isSome ∧ (findCar 3 (stationPitch 317 ⟨0, 0, 0⟩ searched)).isSome ∧
      searched.settings.site.presence ≤ (searched.settings.gauges.get 0).get 19 ∧
      (searched.settings.gauges.get 0).get 18 < searched.settings.site.presence) ∧
    ((sampled 2 false).station.watch = .sampling 3 300 2 false ⟨1600, 800, 800⟩ ∧ (findCar 3 (sampled 2 false)).isSome ∧
      reached 316 (300 + BitVec.ofNat 16 (8 * 2)) = true ∧ reached 315 (300 + BitVec.ofNat 16 (8 * 2)) = false) ∧
    (findCar 3 (stationPitch 316 ⟨100, 0, 50⟩ (sampled 2 false))).isSome ∧
    (findCar 3 (stationPitch 316 ⟨1, 0, 50⟩ (sampled 2 true))).isSome ∧
    (findCar 3 (stationPitch 1060 ⟨1, 0, 50⟩ (sampled 95 false))).isSome ∧
    (findCar 3 (stationPitch 1060 ⟨100, 0, 50⟩ (sampled 95 false))).isSome := by decide +kernel

theorem witness_starts :
    (full.powered = true ∧ rig.store.save = none ∧ State.reset.store.image = none) ∧
    (rig.store.image = some (writtenImage rigSettings) ∧ (writtenImage rigSettings).check = imageCheck (writtenImage rigSettings).settings) ∧
    (let spoilt : StoreImage := ⟨rigSettings, ~~~imageCheck rigSettings⟩
     spoilt.check ≠ imageCheck spoilt.settings) ∧
    ((saving .verifying 1).store.save.map (·.stage) = some .verifying ∧ (saving .verifying 1).powered = true) ∧
    quietLines.estop = false ∧ { quietLines with estop := true }.estop = true :=
  ⟨by decide +kernel, ⟨rfl, rfl⟩, fun h => by have := congrArg BitVec.msb h; simp at this, by decide +kernel, rfl, rfl⟩

/-! ## Worked cases of the spec -/

/-- R194, R29: a profile's length n is two bytes, its sample index one. -/
theorem test_frame_testProfile : encodeRequest (.setTestProfile 0 1 96 16 []) = some ⟨0x3B, [1, 96, 0, 16, 0]⟩ := by decide +kernel

/-- 10_station_links_and_access.md, Frames: kind 0x21 with body 05 00 on the line. -/
theorem test_frame_pullCar : frameBytes 0x21 [0x05, 0x00] = [0xA5, 0x03, 0x21, 0x05, 0x00, 0xD7] ∧
    encodeRequest (.pullCar 0 5) = some ⟨0x21, [0x05, 0x00]⟩ ∧ spelt 0 ⟨0x21, [0x05, 0x00]⟩ = some (.pullCar 0 5) := by decide +kernel

/-- R195: QUOTE's body is plan, count and extras, slot, lane; 0xFF is no slot and 0 no lane. -/
theorem test_frame_quote : encodeRequest (.quote 1 3 [0, 2] none none) = some ⟨0x10, [3, 2, 0, 2, 0xFF, 0]⟩ := by decide +kernel

/-- The part with a plan, extras and a slot of the worked prices. -/
def pricing (plan : Nat) (extras : List Nat) (slot : Discount) : State :=
  { rig with
    settings.plans := (Vector.replicate 24 blankPlan).set 0 { somePlan with price := plan }
    settings.extras := tabulate fun i => { blankExtra with price := extras.getD i.val 0 }
    settings.discounts := (Vector.replicate 8 noDiscount).set 0 slot }

/-- R107, Worked prices: subtotal and discount of the five lines. -/
theorem test_prices :
    (let s := pricing 1899 [300, 450] ⟨.percent, 15, 1⟩
     subtotalOf 0 [0, 1] s = 2649 ∧ discountOf (some 0) 2649 s = 397) ∧
    discountOf (some 0) 1255 (pricing 1255 [] ⟨.percent, 10, 1⟩) = 126 ∧
    discountOf (some 0) 1250 (pricing 1250 [] ⟨.percent, 10, 1⟩) = 125 ∧
    (399 - discountOf (some 0) 399 (pricing 399 [] ⟨.amount, 500, 1⟩) = 0) ∧
    (let s := pricing 99999 [99999, 99999, 99999, 99999] ⟨.percent, 100, 1⟩
     subtotalOf 0 [0, 1, 2, 3] s = 499995 ∧ discountOf (some 0) 499995 s = 499995) := by decide +kernel

/-- What a test looks at after one command. -/
def after {α : Type} (f : State → α) (i : Instr) (s : State) : Option α :=
  match exec i s with
  | .next t => some (f t)
  | .fault _ => none
  | .refused _ => none

/-- 01_conveyor_tracking.md, rollback and slip: the conveyor at a phase, P, H and flag. -/
def rolling (phase : Fin 4) (pos high : Pos) (flag : Bool) : State :=
  { withCars [someCar 3] opened with
    tracker := { opened.tracker with phase := phase, pos := pos, high := high, rolledBack := flag, run := true } }

def trackerView (s : State) : Nat × Nat × Bool × TunnelState :=
  (s.tracker.pos.toNat, s.tracker.high.toNat, s.tracker.rolledBack, s.supervisor.tunnel)

/-- R11: a pitch taken first restarts the stall timer, and the expiry behind it does not happen; at 0 units it raises CONVEYOR_STALL. -/
theorem test_stallAfterPitch :
    let s := rolling 0 10 10 false
    (after (fun t => (after (·.supervisor.tunnel) .conveyorStall t)) (.encoderLineChange 1 ⟨0, 0, 0⟩ [])
      { s with tracker.stall := some 0 }) = some (some .opened) ∧
    after (·.supervisor.tunnel) .conveyorStall { s with tracker.stall := some 0 } = some .halted := by decide +kernel

/-- R154, R146: after the count of overflows has wrapped to 0 an overflow still tags nothing. -/
theorem test_overflowAfterWrap :
    let b : Bank := { zeroedBank .sealed with
      written := 256, overflow := 4294967295, overflowed := true, records := [ticketRecord (someTicket 1 .paid) .voided] }
    let once := b.spill (ticketRecord (someTicket 2 .paid) .voided)
    once.overflow = 0 ∧ (once.spill (ticketRecord (someTicket 3 .paid) .voided)).records = b.records := by decide +kernel

/-- R194: the lane signals are GO 1 and STOP 2. -/
theorem test_signalCodes : signalCode true = 1 ∧ signalCode false = 2 := by decide

/-- Steps 11, 12, 15 and 16 of the sequence. -/
theorem test_rollback :
    after trackerView (.encoderLineChange 1 ⟨0, 0, 0⟩ []) (rolling 2 1196 1203 false) = some (1195, 1203, false, .opened) ∧
    after trackerView (.encoderLineChange 0 ⟨0, 0, 0⟩ []) (rolling 1 1195 1203 false) = some (1194, 1203, true, .halted) ∧
    after trackerView (.encoderLineChange 1 ⟨0, 0, 0⟩ []) (rolling 0 1194 1203 true) = some (1195, 1203, false, .opened) ∧
    after trackerView (.encoderLineChange 3 ⟨0, 0, 0⟩ []) (rolling 1 1195 1203 false) = some (1195, 1203, false, .halted) := by
  decide +kernel

/-- 01_conveyor_tracking.md, two class reductions: the pitch to 5001, the pitch to 5017 and class 3 handed down after 5030. -/
theorem test_settleClass :
    (let t := Tracker.settlePitch { rig.tracker with window := List.replicate 16 4, interval := 4, commanded := 3 }
     t.window = List.replicate 16 4 ∧ t.interval = 3 ∧ t.settle = 4) ∧
    (let t := Tracker.settlePitch { rig.tracker with
       window := 4 :: List.replicate 10 3 ++ List.replicate 5 2, interval := 2, commanded := 2 }
     t.window = List.replicate 10 3 ++ List.replicate 6 2 ∧ t.settle = 3) ∧
    let t := Tracker.handDown 3 { rig.tracker with window := List.replicate 16 2, interval := 2, commanded := 2, settle := 2 }
    t.interval = 3 ∧ t.settle = 3 := by decide +kernel

/-- 02_the_profile_station.md, measuring one car: origin 1997 and 45 samples give the rear extent 649. -/
theorem test_rearExtent :
    measuredExtent 300 1997 { someCar 41 with anchor := 2000, samples := List.replicate 45 ⟨1, 1, 1⟩ } = 649 := by decide +kernel

/-- 03_arch_channels.md, one lift arch: car 41's entries at arch 5, and car 42's release. -/
theorem test_eventPositions :
    let r : Layout := { someLift with offset := 520, lead := 16, trail := 24 }
    engagePosition 1997 r = 2501 ∧ releasePosition 1997 (8 * 44) r = 2893 ∧ engagePosition 3008 r = 3512 ∧
      releasePosition 3008 (8 * 29) r = 3784 := by decide +kernel

/-- 04_profile_following_and_pacing.md, one pitch of a lift arch: P = 1470 and P = 1471. -/
theorem test_following :
    let r : Layout := { someLift with offset := 420, lookAhead := 24, minimum := 600, maximum := 2400, slew := 300 }
    let c : Car := { someCar 1 with
      services := [⟨3, 40⟩]
      samples := ([0, 0, 0, 0, 0, 0, 1480, 1800, 1820, 1830, 1830] : List Nat).map fun n => ⟨n, 0, 0⟩ }
    followCar r 25 1700 1470 1000 c = ⟨1790, 1712, -192⟩ ∧ followCar r 25 1712 1471 1000 c = ⟨1790, 1724, -164⟩ := by decide +kernel

/-- 04_profile_following_and_pacing.md, a rise too steep to follow: the pitches to 5417 and 5428. -/
theorem test_steepRise :
    let r : Layout := { someLift with offset := 400, lookAhead := 8, minimum := 600, maximum := 2400, slew := 150, margin := 40 }
    let c : Car := { someCar 1 with
      services := [⟨3, 30⟩]
      samples := ([800, 800, 800, 800, 1200, 1200] : List Nat).map fun n => ⟨n, 0, 0⟩ }
    followCar r 12 770 5417 5000 c = ⟨820, 782, -12⟩ ∧ followCar r 12 902 5428 5000 c = ⟨1170, 914, 56⟩ := by decide +kernel

/-- 04_profile_following_and_pacing.md, a car's class: requirements 10 and 4 keep class 3, requirements 19 and 4 give class 1. -/
theorem test_carClass :
    let lift : Layout := { someLift with slew := 300 }
    let reach : Layout := { someLift with kind := .reachLeft, slew := 200 }
    let s := { rig with settings.layouts := ((Vector.replicate 12 unusedLayout).set 2 lift).set 9 reach }
    let c : Car := { someCar 1 with maxClass := 3, statuses := ((Vector.replicate 12 none).set 2 (some .pending)).set 9 (some .pending) }
    classOf s { c with requirements := ((Vector.replicate 12 0).set 2 10).set 9 4 } = 3 ∧
    classOf s { c with requirements := ((Vector.replicate 12 0).set 2 19).set 9 4 } = 1 := by decide +kernel

/-- R144: an emergency stop asserted at a power-on reset is halt 1, in CLOSED. -/
theorem test_estopAtReset :
    after (fun t => (t.supervisor.tunnel, t.supervisor.haltCounter, t.supervisor.halt.map (·.resume)))
      (.powerOnReset { quietLines with estop := true } false) State.reset = some (.halted, 1, some .closed) := by decide +kernel

/-- R191: a power-on reset of the reset state under quiet lines is the reset state. -/
theorem test_powerOnFromReset : exec (.powerOnReset quietLines false) State.reset = .next State.reset := by rfl

/-- R171: the sync byte begins a frame, and a length of 121 is an error. -/
theorem test_receiver :
    after (fun t => (linkAt 2 t).receiver) (.receiveByte 2 0xA5) State.reset = some .length ∧
    after (fun t => ((linkAt 0 t).receiver, (linkAt 0 t).errors)) (.receiveByte 0 121) (receiving .length) = some (.hunt, 1) := by
  decide +kernel

/-- R175: the answer to a HALT of a configured part in OPEN: kind 0xA0, status 0, no flags. Its halt notice follows it. -/
theorem test_haltAnswer :
    after (fun t => ((linkAt 0 t).queue.take 6, (linkAt 2 t).queue, t.supervisor.tunnel)) (.halt 0) opened
      = some ([0xA5, 0x03, 0xA0, 0x00, 0x00, 0x5D], [], .halted) := by decide +kernel

/-- R125, R187: an UNCONFIGURED part refuses OPEN_TUNNEL with NOT_READY (13) and shows its flags UNCONFIGURED and INVALID. -/
theorem test_openUnconfigured :
    after (fun t => ((linkAt 0 t).queue, t.supervisor.tunnel)) (.openTunnel 0) State.reset
      = some ([0xA5, 0x03, 0xA2, 0x0D, 0x14, 0x3A], .closed) := by decide +kernel

end Sys2Proof.Tests
end

section
/-! SUPPORT. The conveyor's course: what the run command and its stall timer go by (R7, R8, R10), and what only a pitch, a start
or an edit of the settings changes. One lemma for each operation that leaves all of it alone. -/

namespace Sys2Proof.Machine

/-! ## The course -/

/-- What only a pitch, a start or an edit of the settings changes: phase, P, H, the rollback flag, the settle window, the settings. -/
abbrev Motion : Type := Fin 4 × Pos × Pos × Bool × List Nat × Settings

def motionOf (s : State) : Motion :=
  (s.tracker.phase, s.tracker.pos, s.tracker.high, s.tracker.rolledBack, s.tracker.window, s.settings)

theorem motionOf_eq_iff (s t : State) :
    motionOf t = motionOf s ↔ t.tracker.phase = s.tracker.phase ∧ t.tracker.pos = s.tracker.pos ∧
      t.tracker.high = s.tracker.high ∧ t.tracker.rolledBack = s.tracker.rolledBack ∧
      t.tracker.window = s.tracker.window ∧ t.settings = s.settings := by
  simp only [motionOf, Prod.mk.injEq]

/-- What R7 and R10 speak of: the run command, whether the stall timer runs, the tunnel state, whether the table is empty and whether
a call stands. -/
abbrev Drive : Type := Bool × Bool × TunnelState × Bool × Bool

def driveOf (s : State) : Drive :=
  (s.tracker.run, s.tracker.stall.isSome, s.supervisor.tunnel, s.entry.table.isEmpty, s.entry.call.isSome)

theorem driveOf_eq_iff (s t : State) :
    driveOf t = driveOf s ↔ t.tracker.run = s.tracker.run ∧ t.tracker.stall.isSome = s.tracker.stall.isSome ∧
      t.supervisor.tunnel = s.supervisor.tunnel ∧ t.entry.table.isEmpty = s.entry.table.isEmpty ∧
      t.entry.call.isSome = s.entry.call.isSome := by
  simp only [driveOf, Prod.mk.injEq]

def course (s : State) : Drive × Motion := (driveOf s, motionOf s)

theorem driveOf_of_course {s t : State} (h : course t = course s) : driveOf t = driveOf s := congrArg Prod.fst h

theorem motionOf_of_course {s t : State} (h : course t = course s) : motionOf t = motionOf s := congrArg Prod.snd h

theorem course_foldl {α : Type} (f : State → α → State) (h : ∀ s a, course (f s a) = course s) (l : List α) (s : State) :
    course (l.foldl f s) = course s :=
  List.foldlRecOn (motive := fun t => course t = course s) l f rfl fun t ht a _ => (h t a).trans ht

variable (s : State)

/-! ## Plain updates -/

@[simp] theorem course_modifyArch (a : Fin 12) (f : Arch → Arch) : course (modifyArch a f s) = course s := rfl
@[simp] theorem course_modifyTicket (n : Nat) (f : Ticket → Ticket) : course (modifyTicket n f s) = course s := rfl
@[simp] theorem course_modifyLink (l : Fin 4) (f : Link → Link) : course (modifyLink l f s) = course s := rfl
@[simp] theorem course_raise (c : Cause) : course (raise c s) = course s := rfl
@[simp] theorem course_notify (t : NoticeType) (b : List Byte) : course (notify t b s) = course s := rfl
@[simp] theorem course_notifyLink (l : Fin 4) (b : List Byte) : course (notifyLink l b s) = course s := rfl
@[simp] theorem course_markDirty : course (markDirty s) = course s := rfl
@[simp] theorem course_watching (w : Watch) : course (watching w s) = course s := rfl
@[simp] theorem course_forget : course (forget s) = course s := rfl
@[simp] theorem course_setSignal (l : Fin 3) (go : Bool) : course (setSignal l go s) = course s := rfl
@[simp] theorem course_modifyHalt (f : HaltRecord → HaltRecord) : course (modifyHalt f s) = course s := rfl
@[simp] theorem course_dropTicket (n : Nat) : course (dropTicket n s) = course s := rfl
@[simp] theorem course_pulseRoller : course (pulseRoller s) = course s := rfl
@[simp] theorem course_setAvailability : course (setAvailability s) = course s := rfl
@[simp] theorem course_modifyBank (b : BankId) (f : Bank → Bank) : course (modifyBank b f s) = course s := by cases b <;> rfl

/-- Changing the cars one by one leaves the table empty or not empty. -/
theorem course_mapTable (f : Car → Car) : course { s with entry.table := s.entry.table.map f } = course s := by
  simp [course, driveOf, motionOf]

@[simp] theorem course_modifyCar (n : Nat) (f : Car → Car) : course (modifyCar n f s) = course s := course_mapTable s _
@[simp] theorem course_markHalt (n : Nat) : course (markHalt n s) = course s := course_mapTable s _

@[simp] theorem course_handDown (c : Nat) : course (handDown c s) = course s := by
  unfold handDown Tracker.handDown
  split <;> rfl

/-! ## Cars and their classes -/

@[simp] theorem course_tagCar (n : Nat) (t : Tag) : course (tagCar n t s) = course s := course_modifyCar s n _
@[simp] theorem course_setStatus (n : Nat) (a : Fin 12) (st : ArchStatus) : course (setStatus n a st s) = course s :=
  course_modifyCar s n _

@[simp] theorem course_recomputeClass : course (recomputeClass s) = course s :=
  (course_mapTable (handDown (conveyorClass s) s) _).trans (course_handDown s _)

@[simp] theorem course_setClass (n k : Nat) : course (setClass n k s) = course s := by
  unfold setClass
  split
  · rfl
  · split <;> simp

@[simp] theorem course_computeClass (n : Nat) : course (computeClass n s) = course s := by
  unfold computeClass
  split
  · rfl
  · split <;> simp

@[simp] theorem course_paceSample (n : Nat) : course (paceSample n s) = course s := by
  unfold paceSample
  split
  · rfl
  · split <;> simp

@[simp] theorem course_joinDomain (n : Nat) : course (joinDomain n s) = course s := by
  unfold joinDomain
  split
  · rfl
  · split <;> simp

@[simp] theorem course_statusSettled (n : Nat) : course (statusSettled n s) = course s := by
  unfold statusSettled
  split
  · rfl
  · split <;> simp

@[simp] theorem course_handStatus (a : Fin 12) (n : Nat) : course (handStatus a n s) = course s := by
  unfold handStatus
  split <;> simp

/-! ## Arches -/

@[simp] theorem course_startReturn (a : Fin 12) : course (startReturn a s) = course s := rfl
@[simp] theorem course_archNotice (r : ArchReason) (a : Fin 12) : course (archNotice r a s) = course s := rfl
@[simp] theorem course_insertEvent (a : Fin 12) (e : ArchEvent) : course (insertEvent a e s) = course s := rfl

@[simp] theorem course_reevaluate (r : AvailabilityReason) : course (reevaluate r s) = course s :=
  (course_foldl _ (fun u _ => course_notify u _ _) _ _).trans (course_foldl _ (fun u _ => course_notify u _ _) _ _)

@[simp] theorem course_insertEngages (n : Nat) : course (insertEngages n s) = course s := by
  unfold insertEngages
  split
  · rfl
  · split
    · rfl
    · exact course_foldl _ (fun t a => course_insertEvent t a _) _ s

@[simp] theorem course_insertReleases (n : Nat) : course (insertReleases n s) = course s := by
  unfold insertReleases
  split
  · rfl
  · split
    · rfl
    · exact course_foldl _ (fun t a => course_insertEvent t a _) _ s

@[simp] theorem course_insertAbsent (n : Nat) : course (insertAbsent n s) = course s := by
  unfold insertAbsent
  split
  · rfl
  · split
    · rfl
    · exact (course_foldl _ (fun t a => by simp) _ _).trans (course_foldl _ (fun t a => course_setStatus t n a _) _ s)

@[simp] theorem course_purgeArch (n : Nat) (a : Fin 12) : course (purgeArch n s a) = course s := by
  unfold purgeArch
  dsimp only
  split <;> simp

@[simp] theorem course_purgeCar (n : Nat) : course (purgeCar n s) = course s :=
  course_foldl _ (fun s a => course_purgeArch s n a) _ s

@[simp] theorem course_clearArch (a : Fin 12) : course (clearArch s a) = course s := by
  unfold clearArch
  dsimp only
  split <;> simp

@[simp] theorem course_withdraw (a : Fin 12) : course (withdraw s a) = course s := by
  unfold withdraw
  dsimp only
  split
  · split <;> simp
  · rfl

@[simp] theorem course_withdrawAll : course (withdrawAll s) = course s := course_foldl _ course_withdraw _ s

@[simp] theorem course_fireEngage (a : Fin 12) (n : Nat) : course (fireEngage a n s) = course s := by
  unfold fireEngage
  split
  · rfl
  · dsimp only
    repeat' split
    all_goals simp

@[simp] theorem course_fireRelease (a : Fin 12) (n : Nat) : course (fireRelease a n s) = course s := by
  have hreturn : course (if (archAt a s).engaged = some n then startReturn a s else s) = course s := by split <;> rfl
  unfold fireRelease
  dsimp only
  split
  · exact hreturn
  · split
    · simpa using hreturn
    · exact hreturn

theorem course_fireEvent (a : Fin 12) (e : ArchEvent) : course (fireEvent a s e) = course s := by
  unfold fireEvent
  split <;> simp

@[simp] theorem course_fireDue (a : Fin 12) (p : Pos) (before : List ArchEvent) : course (fireDue a p before s) = course s :=
  (course_foldl _ (fun t e => course_fireEvent t a e) _ _).trans rfl

@[simp] theorem course_tripsOut (a : Fin 12) : course (tripsOut a s) = course s := by
  unfold tripsOut
  split <;> simp

@[simp] theorem course_trip (a : Fin 12) (n : Nat) : course (trip a n s) = course s := by
  unfold trip
  dsimp only
  split <;> simp

@[simp] theorem course_loadCheck (a : Fin 12) : course (loadCheck a s) = course s := by
  unfold loadCheck
  dsimp only
  split
  · rfl
  · split
    · rfl
    · split <;> simp

@[simp] theorem course_writeTrace (a : Fin 12) (p : Pos) (f : Followed) : course (writeTrace a p f s) = course s := by
  unfold writeTrace
  split <;> rfl

@[simp] theorem course_afterFollow (a : Fin 12) (n : Nat) (p : Pos) (f : Followed) :
    course (afterFollow a n p f s) = course s := by
  unfold afterFollow
  dsimp only
  repeat' split
  all_goals simp

@[simp] theorem course_followStep (a : Fin 12) (p : Pos) (settle : Nat) : course (followStep a p settle s) = course s := by
  unfold followStep
  dsimp only
  repeat' split
  all_goals simp

theorem course_archPitch (a : Fin 12) (p : Pos) (settle : Nat) (before : List ArchEvent) :
    course (archPitch a p settle before s) = course s := by
  simp [archPitch]

/-! ## The station -/

@[simp] theorem course_finishProfile (n : Nat) (final : ProfileState) : course (finishProfile n final s) = course s := by
  simp [finishProfile]

@[simp] theorem course_dropTrailing (n : Nat) : course (dropTrailing n s) = course s := course_modifyCar s n _

@[simp] theorem course_makeAbsent (n : Nat) : course (makeAbsent n s) = course s := by
  unfold makeAbsent
  dsimp only
  split <;> simp

@[simp] theorem course_setOrigin (n : Nat) (p : Pos) (top : Nat) (g : GaugeCodes) :
    course (setOrigin n p top g s) = course s := by
  unfold setOrigin
  dsimp only
  split <;> simp

@[simp] theorem course_searchPitch (n : Nat) (p : Pos) (g : GaugeCodes) : course (searchPitch n p g s) = course s := by
  unfold searchPitch
  dsimp only
  repeat' split
  all_goals simp

@[simp] theorem course_appendSample (n : Nat) (x : Sample) : course (appendSample n x s) = course s := by
  simp [appendSample]

@[simp] theorem course_handleSample (n : Nat) (first : Pos) (next : Nat) (absent : Bool) (x : Sample) :
    course (handleSample n first next absent x s) = course s := by
  unfold handleSample
  repeat' split
  all_goals simp

@[simp] theorem course_samplePitchStep (n : Nat) (first : Pos) (next : Nat) (absent : Bool) (last : Sample) (p : Pos)
    (g : GaugeCodes) : course (samplePitchStep n first next absent last p g s) = course s := by
  unfold samplePitchStep
  dsimp only
  split
  · split <;> simp
  · rfl

theorem course_stationPitch (p : Pos) (g : GaugeCodes) : course (stationPitch p g s) = course s := by
  unfold stationPitch
  split <;> simp

@[simp] theorem course_settleWatched : course (settleWatched s) = course s := by
  unfold settleWatched
  split
  · rfl
  · simp
  · dsimp only
    split <;> simp

@[simp] theorem course_unwatch (n : Nat) : course (unwatch n s) = course s := by
  unfold unwatch
  repeat' split
  all_goals simp

/-! ## The journal and the tickets -/

@[simp] theorem course_journalNotice (kind : Nat) (b : BankId) (contents : List Byte) :
    course (journalNotice kind b contents s) = course s := rfl

@[simp] theorem course_ticketNotice (k : TicketNoticeKind) (t : Ticket) (left : Nat) (more : List Byte) :
    course (ticketNotice k t left more s) = course s := rfl

@[simp] theorem course_submit (b : BankId) (r : JournalRecord) : course (submit b r s) = course s := by
  unfold submit
  dsimp only
  repeat' split
  all_goals simp

@[simp] theorem course_submitTicket (t : Ticket) (o : WashOutcome) : course (submitTicket t o s) = course s := by
  simp [submitTicket]

@[simp] theorem course_sealedNotice (b : BankId) : course (sealedNotice b s) = course s := rfl

@[simp] theorem course_sealIfDrained (b : BankId) : course (sealIfDrained b s) = course s := by
  unfold sealIfDrained
  split <;> simp

@[simp] theorem course_submitCar (c : Car) (k : RemovalKind) (applied : Nat) : course (submitCar c k applied s) = course s := by
  unfold submitCar
  split <;> simp

@[simp] theorem course_countAdmitted (b : BankId) : course (countAdmitted b s) = course s := course_modifyBank s b _

@[simp] theorem course_payTicket (t : Ticket) (tender : Option Tender) (lapses : Nat) :
    course (payTicket t tender lapses s) = course s := rfl

/-! ## The Supervisor and the links -/

@[simp] theorem course_endRehearsal (e : RunEnding) (c : Car) : course (endRehearsal e c s) = course s := rfl

@[simp] theorem course_abandonRehearsal (n : Nat) : course (abandonRehearsal n s) = course s := by
  unfold abandonRehearsal
  split
  · split <;> simp
  · rfl

@[simp] theorem course_furtherCause (c : Cause) : course (furtherCause c s) = course s := rfl

@[simp] theorem course_endHalt (e : HaltEnding) : course (endHalt e s) = course s := by
  unfold endHalt
  split <;> rfl

@[simp] theorem course_missingPitch (p : Pos) : course (missingPitch p s) = course s := by
  unfold missingPitch
  split
  · rfl
  · split <;> simp

@[simp] theorem course_flush : course (flush s) = course s := by
  obtain ⟨links, -, h⟩ := flush_frame s
  rw [h]
  rfl

@[simp] theorem course_answer (l : Fin 4) (kind : Byte) (x : State × Reply) : course (answer l kind x) = course x.1 := by
  obtain ⟨links, -, h⟩ := answer_frame l kind x
  rw [h]
  rfl

end Sys2Proof.Machine
end

section
/-! SUPPORT. The run command under every operation that moves the tunnel, the table or the call (R7, R8): each ends in a
re-evaluation, and none of them starts the stall timer of a stopped conveyor. -/

namespace Sys2Proof.Machine

/-! ## What R7 asks for -/

/-- The stall timer is idle while the run command is STOP (R10). -/
def StallIdle (s : State) : Prop := s.tracker.run = false → s.tracker.stall = none

variable {s t u : State}

theorem runWanted_iff (s : State) :
    runWanted s = true ↔ (s.supervisor.tunnel = .opened ∨ s.supervisor.tunnel = .closing) ∧
      (s.entry.table ≠ [] ∨ s.entry.call.isSome = true) ∨ s.supervisor.tunnel = .rehearsal := by
  unfold runWanted
  cases h : s.supervisor.tunnel <;> simp

theorem runFollows_iff (s : State) : RunFollows s ↔ s.tracker.run = runWanted s ∧ StallIdle s := by
  unfold RunFollows StallIdle
  rw [← runWanted_iff, ← Bool.eq_iff_iff]

theorem RunFollows.stallIdle (h : RunFollows s) : StallIdle s := h.2

theorem stallIdle_iff (s : State) : StallIdle s ↔ (s.tracker.run = false → s.tracker.stall.isSome = false) := by
  simp [StallIdle]

theorem runWanted_congr (h : driveOf t = driveOf s) : runWanted t = runWanted s := by
  obtain ⟨-, -, htunnel, htable, hcall⟩ := (driveOf_eq_iff s t).mp h
  simp only [runWanted, htunnel, htable, hcall]

theorem StallIdle.of_drive (h : driveOf t = driveOf s) (hs : StallIdle s) : StallIdle t := by
  obtain ⟨hrun, htimed, -⟩ := (driveOf_eq_iff s t).mp h
  rw [stallIdle_iff] at hs ⊢
  rwa [hrun, htimed]

theorem RunFollows.of_drive (h : driveOf t = driveOf s) (hs : RunFollows s) : RunFollows t := by
  obtain ⟨hrun, -⟩ := (driveOf_eq_iff s t).mp h
  rw [runFollows_iff] at hs ⊢
  rw [hrun, runWanted_congr h]
  exact ⟨hs.1, hs.2.of_drive h⟩

theorem RunFollows.of_course (h : course t = course s) (hs : RunFollows s) : RunFollows t :=
  hs.of_drive (driveOf_of_course h)

/-- Under a halt the run command is STOP, and nothing but the tracker matters to R7. -/
theorem RunFollows.of_stopped (hs : RunFollows s) (before : stopped s = true) (after : stopped t = true)
    (ht : t.tracker = s.tracker) : RunFollows t := by
  have idle (v : State) (hv : stopped v = true) : runWanted v = false := by
    simp only [stopped, Bool.or_eq_true, beq_iff_eq] at hv
    rcases hv with hv | hv <;> simp [runWanted, hv]
  rw [runFollows_iff, StallIdle] at hs ⊢
  rw [ht, idle t after]
  rwa [idle s before] at hs

/-! ## The re-evaluation (R8) -/

theorem evaluateRun_of_eq (h : runWanted s = s.tracker.run) : evaluateRun s = s := if_pos h

theorem evaluateRun_of_wanted (h : runWanted s = true) (hr : s.tracker.run = false) :
    evaluateRun s = { s with tracker.run := true, tracker.stall := some (fullStall s) } := by
  simp [evaluateRun, h, hr]

theorem evaluateRun_of_unwanted (h : runWanted s = false) (hr : s.tracker.run = true) :
    evaluateRun s = { s with tracker.run := false, tracker.stall := none } := by
  simp [evaluateRun, h, hr]

/-- The re-evaluation gives R7 whatever the run command was. -/
theorem evaluateRun_follows (h : StallIdle s) : RunFollows (evaluateRun s) := by
  rw [runFollows_iff]
  cases hw : runWanted s <;> cases hr : s.tracker.run
  · rw [evaluateRun_of_eq (hw.trans hr.symm)]
    exact ⟨hr.trans hw.symm, h⟩
  · rw [evaluateRun_of_unwanted hw hr]
    exact ⟨hw.symm, fun _ => rfl⟩
  · rw [evaluateRun_of_wanted hw hr]
    exact ⟨hw.symm, nofun⟩
  · rw [evaluateRun_of_eq (hw.trans hr.symm)]
    exact ⟨hr.trans hw.symm, h⟩

/-! ## Operations that leave the motion and the idle timer alone -/

/-- No pitch is made, no setting edited, and an idle stall timer stays idle while the run command is STOP. -/
def Steered (s t : State) : Prop := motionOf t = motionOf s ∧ (StallIdle s → StallIdle t)

theorem Steered.motion (h : Steered s t) : motionOf t = motionOf s := h.1

theorem Steered.stall (h : Steered s t) : StallIdle s → StallIdle t := h.2

theorem Steered.refl (s : State) : Steered s s := And.intro rfl id

theorem Steered.trans (h : Steered s t) (k : Steered t u) : Steered s u :=
  And.intro (k.motion.trans h.motion) (k.stall ∘ h.stall)

theorem Steered.of_course (h : course t = course s) : Steered s t :=
  And.intro (motionOf_of_course h) fun hs => hs.of_drive (driveOf_of_course h)

theorem Steered.of_tracker (h : t.tracker = s.tracker) (hs : t.settings = s.settings) : Steered s t :=
  And.intro (by simp only [motionOf, h, hs]) fun hi => by rwa [StallIdle, h]

theorem Steered.then_course (h : Steered s t) (hc : course u = course t) : Steered s u := h.trans (.of_course hc)

theorem Steered.foldl {α : Type} (f : State → α → State) (h : ∀ s a, Steered s (f s a)) (l : List α) (s : State) :
    Steered s (l.foldl f s) :=
  List.foldlRecOn (motive := Steered s) l f (.refl s) fun t ht a _ => ht.trans (h t a)

theorem evaluateRun_steered (s : State) : Steered s (evaluateRun s) := by
  refine And.intro ?_ fun h => (evaluateRun_follows h).stallIdle
  unfold evaluateRun
  repeat' split
  all_goals rfl

theorem Steered.evaluated (h : Steered s t) (hs : StallIdle s) : RunFollows (evaluateRun t) := evaluateRun_follows (h.stall hs)

theorem changeTunnel_steered (s : State) (new : TunnelState) (r : ChangeReason) (n : Nat) (more : List Byte) :
    Steered s (changeTunnel new r n more s) := .of_tracker rfl rfl

/-! ## Removals -/

theorem closeIfEmpty_steered (s : State) : Steered s (closeIfEmpty s) := by
  unfold closeIfEmpty
  split
  · exact (changeTunnel_steered s _ _ _ _).trans (evaluateRun_steered _)
  · exact .refl s

theorem closeIfEmpty_follows (h : RunFollows s) : RunFollows (closeIfEmpty s) := by
  unfold closeIfEmpty
  split
  · exact (changeTunnel_steered s _ _ _ _).evaluated h.stallIdle
  · exact h

/-- A removal re-evaluates the run command and then closes an empty tunnel that is CLOSING (R96, R127). -/
theorem removeCar_evaluates (c : Car) (k : RemovalKind) (s : State) :
    ∃ t, Steered s t ∧ removeCar c k s = closeIfEmpty (evaluateRun t) := by
  refine ⟨_, ?_, rfl⟩
  have hfilter : Steered s { s with entry.table := s.entry.table.filter fun k => k.number != c.number } := .of_tracker rfl rfl
  refine hfilter.then_course ?_
  split <;> simp

theorem removeCar_steered (c : Car) (k : RemovalKind) (s : State) : Steered s (removeCar c k s) := by
  obtain ⟨t, ht, he⟩ := removeCar_evaluates c k s
  exact he ▸ (ht.trans (evaluateRun_steered t)).trans (closeIfEmpty_steered _)

theorem removeCar_follows (c : Car) (k : RemovalKind) (h : StallIdle s) : RunFollows (removeCar c k s) := by
  obtain ⟨t, ht, he⟩ := removeCar_evaluates c k s
  exact he ▸ closeIfEmpty_follows (ht.evaluated h)

theorem removeAll_follows (k : RemovalKind) (h : RunFollows s) : RunFollows (removeAll k s) :=
  List.foldlRecOn (motive := RunFollows) _ _ h fun _ ht _ _ => removeCar_follows _ k ht.stallIdle

/-! ## Calls -/

theorem issueCall_evaluates (k : Ticket) (s : State) : ∃ t, Steered s t ∧ issueCall k s = evaluateRun t := by
  refine ⟨_, ?_, rfl⟩
  exact .of_tracker rfl rfl

theorem arbitrateWith_steered (gap : Bool) (s : State) : Steered s (arbitrateWith gap s) := by
  unfold arbitrateWith
  repeat' split
  case h_2 k _ =>
    obtain ⟨t, ht, he⟩ := issueCall_evaluates k s
    exact he ▸ ht.trans (evaluateRun_steered t)
  all_goals exact .refl s

theorem arbitrateWith_follows (gap : Bool) (h : RunFollows s) : RunFollows (arbitrateWith gap s) := by
  unfold arbitrateWith
  repeat' split
  case h_2 k _ =>
    obtain ⟨t, ht, he⟩ := issueCall_evaluates k s
    exact he ▸ ht.evaluated h.stallIdle
  all_goals exact h

theorem arbitrate_follows (h : RunFollows s) : RunFollows (arbitrate s) := arbitrateWith_follows _ h

theorem endCall_steered (k : Call) (s : State) : Steered s (endCall k s) := .of_tracker rfl rfl

theorem cancelCall_steered (s : State) : Steered s (cancelCall s) := by
  unfold cancelCall
  split
  · exact .refl s
  · dsimp only
    split
    · exact endCall_steered _ s
    · exact (endCall_steered _ s).then_course ((course_ticketNotice _ _ _ _ _).trans (course_modifyTicket _ _ _))

/-! ## Causes -/

theorem dropPhantom_steered (s : State) : Steered s (dropPhantom s) := by
  unfold dropPhantom
  split
  · exact .refl s
  · exact removeCar_steered _ _ s

/-- On entering HALTED the run command is re-evaluated once all else is done (R131). -/
theorem firstCause_evaluates (c : Cause) (s : State) : ∃ t, Steered s t ∧ firstCause c s = evaluateRun t := by
  refine ⟨_, ?_, rfl⟩
  refine .trans ?_ (dropPhantom_steered _)
  refine .then_course ?_ (course_forget _)
  refine .trans ?_ (cancelCall_steered _)
  refine .then_course ?_ ((course_withdrawAll _).trans (course_markHalt _ _))
  refine .trans ?_ (changeTunnel_steered _ _ _ _ _)
  exact (Steered.of_course (course_abandonRehearsal s _)).trans (.of_tracker rfl rfl)

theorem firstCause_steered (c : Cause) (s : State) : Steered s (firstCause c s) := by
  obtain ⟨t, ht, he⟩ := firstCause_evaluates c s
  exact he ▸ ht.trans (evaluateRun_steered t)

theorem firstCause_follows (c : Cause) (h : StallIdle s) : RunFollows (firstCause c s) := by
  obtain ⟨t, ht, he⟩ := firstCause_evaluates c s
  exact he ▸ ht.evaluated h

theorem endAttempt_steered (r : ChangeReason) (more : List Byte) (s : State) : Steered s (endAttempt r more s) :=
  .of_tracker rfl rfl

theorem endAttempt_follows (r : ChangeReason) (more : List Byte) (hs : stopped s = true) (h : RunFollows s) :
    RunFollows (endAttempt r more s) := h.of_stopped hs rfl rfl

theorem takeCause_steered (c : Cause) (s : State) : Steered s (takeCause c s) := by
  unfold takeCause
  split
  · exact .of_course (course_furtherCause s c)
  · exact (endAttempt_steered _ _ s).then_course (course_furtherCause _ c)
  all_goals exact firstCause_steered c s

theorem takeCause_follows (c : Cause) (h : RunFollows s) : RunFollows (takeCause c s) := by
  unfold takeCause
  split
  · exact h.of_course (course_furtherCause s c)
  · exact (endAttempt_follows _ _ (by simp [stopped, *]) h).of_course (course_furtherCause _ c)
  all_goals exact firstCause_follows c h.stallIdle

theorem takeCauses_steered (s : State) : Steered s (takeCauses s) := by
  refine .trans (t := { s with raised := [] }) (.of_tracker rfl rfl) ?_
  exact .foldl _ (fun t c => takeCause_steered c t) s.raised _

theorem takeCauses_follows (h : RunFollows s) : RunFollows (takeCauses s) :=
  List.foldlRecOn (motive := RunFollows) s.raised _ (h.of_course rfl) fun _ ht c _ => takeCause_follows c ht

/-! ## Rehearsals -/

/-- The end of a rehearsal run re-evaluates the run command (R168). -/
theorem rehearsalPitch_evaluates (p : Pos) (s : State) :
    rehearsalPitch p s = s ∨ ∃ t, Steered s t ∧ rehearsalPitch p s = evaluateRun t := by
  unfold rehearsalPitch
  split
  · split
    · exact .inl rfl
    · refine .inr ⟨_, ?_, rfl⟩
      exact ((removeCar_steered _ _ s).then_course (course_endRehearsal _ _ _)).trans (changeTunnel_steered _ _ _ _ _)
  · exact .inl rfl

theorem rehearsalPitch_steered (p : Pos) (s : State) : Steered s (rehearsalPitch p s) := by
  obtain he | ⟨t, ht, he⟩ := rehearsalPitch_evaluates p s
  · rw [he]
    exact .refl s
  · exact he ▸ ht.trans (evaluateRun_steered t)

theorem rehearsalPitch_follows (p : Pos) (h : RunFollows s) : RunFollows (rehearsalPitch p s) := by
  obtain he | ⟨t, ht, he⟩ := rehearsalPitch_evaluates p s
  · rwa [he]
  · exact he ▸ ht.evaluated h.stallIdle

/-! ## One forward pitch -/

theorem controlPitch_steered (p : Pos) (s : State) : Steered s (controlPitch p s) := by
  refine .trans ?_ (rehearsalPitch_steered p _)
  refine .then_course ?_ (course_missingPitch _ p)
  exact .of_tracker rfl rfl

theorem controlPitch_follows (p : Pos) (h : RunFollows s) : RunFollows (controlPitch p s) :=
  rehearsalPitch_follows p (h.of_course (course_missingPitch _ p))

theorem blockActs_steered (e : PitchEvent) (x : State × Bool) (b : PitchBlock) : Steered x.1 (blockActs e x b).1 := by
  cases b with
  | station =>
    dsimp only [blockActs]
    exact .of_course (course_stationPitch x.1 _ _)
  | arch a =>
    dsimp only [blockActs]
    exact .of_course (course_archPitch x.1 a _ _ _)
  | entryExit =>
    dsimp only [blockActs]
    exact controlPitch_steered _ x.1
  | supervisor =>
    dsimp only [blockActs]
    exact takeCauses_steered x.1

theorem blockActs_follows (e : PitchEvent) (x : State × Bool) (b : PitchBlock) (h : RunFollows x.1) :
    RunFollows (blockActs e x b).1 := by
  cases b with
  | station =>
    dsimp only [blockActs]
    exact h.of_course (course_stationPitch x.1 _ _)
  | arch a =>
    dsimp only [blockActs]
    exact h.of_course (course_archPitch x.1 a _ _ _)
  | entryExit =>
    dsimp only [blockActs]
    exact controlPitch_follows _ h
  | supervisor =>
    dsimp only [blockActs]
    exact takeCauses_follows h

/-- The tracker's own part of a forward pitch leaves the run command, and whether the stall timer runs, alone (R2, R12). -/
theorem driveOf_forward (s : State) (allowance stall : Nat) :
    driveOf { s with tracker := s.tracker.forward allowance stall } = driveOf s := by
  simp [driveOf, Tracker.forward, Tracker.forwardPosition, Tracker.settlePitch]

theorem forwardPitch_follows (g : GaugeCodes) (order : List PitchBlock) (h : RunFollows s) :
    RunFollows (forwardPitch g order s) := by
  unfold forwardPitch
  refine arbitrateWith_follows _ (takeCauses_follows ?_)
  exact List.foldlRecOn (motive := fun x : State × Bool => RunFollows x.1) _ _ (h.of_drive (driveOf_forward s _ _))
    fun x hx b _ => blockActs_follows _ x b hx

end Sys2Proof.Machine
end

section
/-! The run command's re-evaluation (R8). -/

namespace Sys2Proof.Machine

/-- Settles O22: the re-evaluation starts, idles or leaves the stall timer by what R7 asks for. -/
theorem runCommandReevaluation : Obligations.RunCommandReevaluation := by
  intro s wanted
  have hw : runWanted s = true ↔ wanted := runWanted_iff s
  have hn (h : ¬ wanted) : runWanted s = false := Bool.eq_false_iff.mpr (mt hw.mp h)
  exact ⟨fun h hr => evaluateRun_of_eq ((hw.mpr h).trans hr.symm), fun h hr => evaluateRun_of_wanted (hw.mpr h) hr,
    fun h hr => evaluateRun_of_eq ((hn h).trans hr.symm), fun h hr => evaluateRun_of_unwanted (hn h) hr⟩

end Sys2Proof.Machine
end

section
/-! SUPPORT. The run command under every command (R7): what each request and each line event does to it. -/

namespace Sys2Proof.Machine

variable {s : State}

/-! ## Requests that leave the run command's terms alone -/

theorem driveOf_reevaluate (r : AvailabilityReason) (s : State) : driveOf (reevaluate r s) = driveOf s :=
  driveOf_of_course (course_reevaluate s r)

theorem driveOf_quoteRequest (l : Fin 4) (plan : Nat) (extras : List Nat) (slot lane : Option Nat) (s : State) :
    driveOf (quoteRequest l plan extras slot lane s).1 = driveOf s := by
  unfold quoteRequest
  split <;> rfl

theorem driveOf_cancelRequest (l : Fin 4) (n : Nat) (s : State) : driveOf (cancelRequest l n s).1 = driveOf s := by
  unfold cancelRequest
  split <;> rfl

theorem driveOf_editPlanRequest (l : Fin 4) (n : Nat) (p : Plan) (s : State) :
    driveOf (editPlanRequest l n p s).1 = driveOf s := by
  unfold editPlanRequest
  split
  · rfl
  · exact driveOf_reevaluate _ _

theorem driveOf_editExtraRequest (l : Fin 4) (n : Nat) (e : Extra) (s : State) :
    driveOf (editExtraRequest l n e s).1 = driveOf s := by
  unfold editExtraRequest
  split
  · rfl
  · exact driveOf_reevaluate _ _

theorem driveOf_editDiscountRequest (l : Fin 4) (n : Nat) (r : DiscountArg) (s : State) :
    driveOf (editDiscountRequest l n r s).1 = driveOf s := by
  unfold editDiscountRequest
  split
  · rfl
  · rfl
  · exact driveOf_reevaluate _ _

theorem driveOf_editServiceRequest (l : Fin 4) (n : Nat) (name : List Byte) (s : State) :
    driveOf (editServiceRequest l n name s).1 = driveOf s := by
  unfold editServiceRequest
  split
  · rfl
  · exact driveOf_reevaluate _ _

theorem driveOf_lockRangeRequest (l : Fin 4) (first last : Nat) (s : State) :
    driveOf (lockRangeRequest l first last s).1 = driveOf s := by
  unfold lockRangeRequest
  split <;> rfl

theorem driveOf_setArchRequest (l : Fin 4) (n : Nat) (record : LayoutArg) (s : State) :
    driveOf (setArchRequest l n record s).1 = driveOf s := by
  unfold setArchRequest
  split
  · rfl
  · rfl
  · rfl
  · split
    · exact driveOf_reevaluate _ _
    · rfl

theorem driveOf_setGaugeRequest (l : Fin 4) (gauge first : Nat) (values : List Nat) (s : State) :
    driveOf (setGaugeRequest l gauge first values s).1 = driveOf s := by
  unfold setGaugeRequest
  split <;> rfl

theorem driveOf_setSiteRequest (l : Fin 4) (p : Site) (s : State) : driveOf (setSiteRequest l p s).1 = driveOf s := by
  unfold setSiteRequest
  split
  · rfl
  · exact (driveOf_of_course (course_recomputeClass (markDirty { s with settings.site := p }))).trans rfl

theorem driveOf_setTestProfileRequest (l : Fin 4) (profile length first : Nat) (samples : List Sample) (s : State) :
    driveOf (setTestProfileRequest l profile length first samples s).1 = driveOf s := by
  unfold setTestProfileRequest
  split
  · rfl
  · rfl
  · dsimp only [takePiece]
    split <;> rfl

theorem driveOf_setAccessRequest (l : Fin 4) (target : Nat) (e : Access) (s : State) :
    driveOf (setAccessRequest l target e s).1 = driveOf s := by
  unfold setAccessRequest
  split <;> rfl

theorem driveOf_saveStoreRequest (l : Fin 4) (s : State) : driveOf (saveStoreRequest l s).1 = driveOf s := by
  unfold saveStoreRequest
  split <;> rfl

/-- An arch taken out or put back, its notice and the availabilities touch nothing of the course (R49). -/
theorem course_setService (a : Fin 12) (out : Bool) (s : State) : course (setService a out s) = course s := by
  unfold setService takeOut putBack
  dsimp only
  repeat' split
  all_goals simp

theorem course_setArchServiceRequest (l : Fin 4) (n setting : Nat) (s : State) :
    course (setArchServiceRequest l n setting s).1 = course s := by
  unfold setArchServiceRequest
  split
  · rfl
  · rfl
  · rfl
  · exact course_setService _ _ s

theorem course_clearJamRequest (l : Fin 4) (n : Nat) (s : State) : course (clearJamRequest l n s).1 = course s := by
  unfold clearJamRequest clearJam
  split <;> simp

theorem course_closeoutRequest (l : Fin 4) (s : State) : course (closeoutRequest l s).1 = course s := by
  unfold closeoutRequest closeBank
  split
  · rfl
  · dsimp only
    split <;> simp

theorem course_readJournalRequest (l : Fin 4) (bank : Nat) (first : Option Nat) (s : State) :
    course (readJournalRequest l bank first s).1 = course s := by
  unfold readJournalRequest
  split
  · rfl
  · rfl
  · split <;> simp

theorem course_releaseBankRequest (l : Fin 4) (bank : Nat) (s : State) :
    course (releaseBankRequest l bank s).1 = course s := by
  unfold releaseBankRequest releaseBank
  split <;> simp

/-! ## Requests that re-evaluate the run command -/

theorem confirmRequest_follows (l : Fin 4) (n tender : Nat) (h : RunFollows s) :
    RunFollows (confirmRequest l n tender s).1 := by
  unfold confirmRequest
  split
  · exact h
  · exact h
  · exact h
  · split
    · exact h
    · exact arbitrate_follows (h.of_course (course_payTicket s _ _ _))

theorem releaseRemembered_follows (n : Nat) (h : RunFollows s) : RunFollows (releaseRemembered n s) := by
  unfold releaseRemembered
  split
  · exact h
  · split
    · exact arbitrate_follows (h.of_course (course_forget s))
    · exact h

theorem voidTicket_follows (t : Ticket) (h : RunFollows s) : RunFollows (voidTicket t s) := by
  refine releaseRemembered_follows _ (h.of_course ?_)
  split <;> simp

theorem voidRequest_follows (l : Fin 4) (n : Nat) (h : RunFollows s) : RunFollows (voidRequest l n s).1 := by
  unfold voidRequest
  split
  · exact h
  · exact h
  · exact voidTicket_follows _ h

theorem course_forgetTicket (n : Nat) (s : State) : course (forgetTicket n s) = course s := by
  unfold forgetTicket
  repeat' split
  all_goals simp

theorem requeueRequest_follows (l : Fin 4) (n : Nat) (h : RunFollows s) : RunFollows (requeueRequest l n s).1 := by
  unfold requeueRequest
  split
  · exact h
  · exact h
  · exact arbitrate_follows (h.of_course (course_forgetTicket _ _))

theorem haltRequest_follows (l : Fin 4) (h : RunFollows s) : RunFollows (haltRequest l s).1 := by
  unfold haltRequest
  split
  · exact h
  · exact takeCause_follows _ h

theorem pullCarRequest_follows (l : Fin 4) (n : Nat) (h : RunFollows s) : RunFollows (pullCarRequest l n s).1 := by
  unfold pullCarRequest
  split
  · exact h
  · exact h
  · dsimp only
    exact arbitrate_follows ((removeCar_follows _ _ h.stallIdle).of_course (course_modifyHalt _ _))

theorem enterOpen_follows (h : StallIdle s) : RunFollows (enterOpen s) :=
  ((Steered.of_course (course_recomputeClass s)).trans (arbitrateWith_steered _ _)).evaluated h

theorem openUnderHalt_follows (h : RunFollows s) : RunFollows (openUnderHalt s).1 := by
  unfold openUnderHalt setResume
  split
  · exact h.of_course (course_modifyHalt s _)
  all_goals exact h

theorem openTunnelRequest_follows (l : Fin 4) (h : RunFollows s) : RunFollows (openTunnelRequest l s).1 := by
  have opened : RunFollows (enterOpen (changeTunnel .opened .openTunnel 0 [] s)) := enterOpen_follows h.stallIdle
  unfold openTunnelRequest
  split
  · exact h
  · split
    · split
      · exact h
      · exact opened
    · exact opened
    · exact h
    · exact openUnderHalt_follows h
    · exact openUnderHalt_follows h
    · exact h

theorem closeUnderHalt_follows (h : RunFollows s) : RunFollows (closeUnderHalt s).1 := by
  unfold closeUnderHalt setResume
  split
  · exact h.of_course (course_modifyHalt s _)
  all_goals exact h

theorem closeFromOpen_follows (h : StallIdle s) : RunFollows (closeFromOpen s) :=
  (((cancelCall_steered s).then_course (course_forget _)).trans (changeTunnel_steered _ _ _ _ _)).evaluated h

theorem closeTunnelRequest_follows (l : Fin 4) (h : RunFollows s) : RunFollows (closeTunnelRequest l s).1 := by
  unfold closeTunnelRequest
  split
  · exact h
  · split
    · exact closeFromOpen_follows h.stallIdle
    · exact h
    · exact h
    · exact closeUnderHalt_follows h
    · exact closeUnderHalt_follows h
    · exact h

/-- Whatever state a halt resumes to, the run command is re-evaluated in it (R137). -/
theorem afterResume_follows (h : StallIdle s) : RunFollows (afterResume s) := by
  unfold afterResume
  split
  · exact enterOpen_follows h
  · exact closeIfEmpty_follows (evaluateRun_follows h)
  all_goals exact evaluateRun_follows h

theorem resumeTunnel_follows (first second : Fin 4) (h : StallIdle s) : RunFollows (resumeTunnel first second s) := by
  have hended : StallIdle (endHalt (.restarted first second) { s with supervisor.restart := none }) :=
    (Steered.of_course (course_endHalt { s with supervisor.restart := none } _)).stall h
  exact afterResume_follows hended

theorem beginRestart_follows (l : Fin 4) (hs : stopped s = true) (h : RunFollows s) : RunFollows (beginRestart l s) :=
  h.of_stopped hs rfl rfl

theorem confirmRestart_follows (l : Fin 4) (hs : stopped s = true) (h : RunFollows s) :
    RunFollows (confirmRestart l s).1 := by
  unfold confirmRestart
  split
  · exact beginRestart_follows l hs h
  · split
    · exact h
    · split
      · exact resumeTunnel_follows _ _ h.stallIdle
      · exact endAttempt_follows _ _ hs (h.of_course (course_modifyHalt s _))

theorem restartRequest_follows (l : Fin 4) (h : RunFollows s) : RunFollows (restartRequest l s).1 := by
  unfold restartRequest
  split
  · exact h
  · split
    next ht => exact beginRestart_follows l (by simp [stopped, ht]) h
    next ht => exact confirmRestart_follows l (by simp [stopped, ht]) h
    all_goals exact h

theorem clearTunnel_follows (h : RunFollows s) : RunFollows (clearTunnel s) := by
  have hended : RunFollows (endHalt .cleared (allArches.foldl clearArch (removeAll .cleared s))) :=
    (removeAll_follows _ h).of_course ((course_endHalt _ _).trans (course_foldl _ course_clearArch _ _))
  unfold clearTunnel
  dsimp only
  split
  · exact (changeTunnel_steered _ _ _ _ _).evaluated hended.stallIdle
  · exact hended

theorem clearTunnelRequest_follows (l : Fin 4) (h : RunFollows s) : RunFollows (clearTunnelRequest l s).1 := by
  unfold clearTunnelRequest
  split
  · exact h
  · dsimp only
    exact clearTunnel_follows h

/-- The phantom car joins the table before the tunnel enters REHEARSAL; the run command follows once both are done (R164). -/
theorem beginRehearsal_follows (profile plan : Nat) (traced : Option Nat) (samples : List Sample) (h : StallIdle s) :
    RunFollows (beginRehearsal profile plan traced samples s) := by
  have hphantom (n : Nat) (t : State) : Steered t (createPhantom n plan samples t) := by
    unfold createPhantom
    refine .then_course (t := { t with
      entry.carCounter := stepOn 65535 n
      entry.table := t.entry.table ++ [newPhantom n plan samples t] }) (.of_tracker rfl rfl) ?_
    simp
  have hrecord (n : Nat) : Steered s (startRecord profile plan traced n s) := .of_tracker rfl rfl
  unfold beginRehearsal
  dsimp only
  refine Steered.evaluated (s := s) ?_ h
  refine .then_course ?_ (course_recomputeClass _)
  exact ((hrecord _).trans (hphantom _ _)).trans (changeTunnel_steered _ _ _ _ _)

theorem rehearseRequest_follows (l : Fin 4) (profile plan : Nat) (traced : Option Nat) (h : RunFollows s) :
    RunFollows (rehearseRequest l profile plan traced s).1 := by
  unfold rehearseRequest
  split
  · exact h
  · exact h
  next samples _ _ =>
    dsimp only
    exact beginRehearsal_follows profile plan traced samples h.stallIdle

/-- Every request keeps the run command at what R7 asks for. -/
theorem runRequest_follows (i : Instr) (h : RunFollows s) : RunFollows (runRequest i s).1 := by
  cases i with
  | quote => exact h.of_drive (driveOf_quoteRequest ..)
  | confirm => exact confirmRequest_follows _ _ _ h
  | cancel => exact h.of_drive (driveOf_cancelRequest ..)
  | voidTicket => exact voidRequest_follows _ _ h
  | requeue => exact requeueRequest_follows _ _ h
  | halt => exact haltRequest_follows _ h
  | pullCar => exact pullCarRequest_follows _ _ h
  | openTunnel => exact openTunnelRequest_follows _ h
  | closeTunnel => exact closeTunnelRequest_follows _ h
  | restart => exact restartRequest_follows _ h
  | clearTunnel => exact clearTunnelRequest_follows _ h
  | setArchService => exact h.of_course (course_setArchServiceRequest ..)
  | clearJam => exact h.of_course (course_clearJamRequest ..)
  | editPlan => exact h.of_drive (driveOf_editPlanRequest ..)
  | editExtra => exact h.of_drive (driveOf_editExtraRequest ..)
  | editDiscount => exact h.of_drive (driveOf_editDiscountRequest ..)
  | editService => exact h.of_drive (driveOf_editServiceRequest ..)
  | lockRange => exact h.of_drive (driveOf_lockRangeRequest ..)
  | setArch => exact h.of_drive (driveOf_setArchRequest ..)
  | setGauge => exact h.of_drive (driveOf_setGaugeRequest ..)
  | setSite => exact h.of_drive (driveOf_setSiteRequest ..)
  | setTestProfile => exact h.of_drive (driveOf_setTestProfileRequest ..)
  | setAccess => exact h.of_drive (driveOf_setAccessRequest ..)
  | saveStore => exact h.of_drive (driveOf_saveStoreRequest ..)
  | closeout => exact h.of_course (course_closeoutRequest ..)
  | readJournal => exact h.of_course (course_readJournalRequest ..)
  | releaseBank => exact h.of_course (course_releaseBankRequest ..)
  | rehearse => exact rehearseRequest_follows _ _ _ _ h
  | _ => exact h

/-! ## Frames -/

theorem takeFrame_follows (l : Fin 4) (f : Frame) (h : RunFollows s) : RunFollows (takeFrame l f s) := by
  unfold takeFrame
  split
  · exact h.of_course (course_answer _ _ _)
  · exact (runRequest_follows _ h).of_course (course_answer _ _ _)

theorem takePending_follows (l : Fin 4) (h : RunFollows s) : RunFollows (takePending l s) := by
  unfold takePending
  split
  · exact takeFrame_follows l _ (h.of_course (course_modifyLink s l _))
  all_goals exact h

/-- A frame that arrives is taken, held or discarded; a pending frame may be taken before it (R173). -/
theorem arrive_follows (l : Fin 4) (f : Frame) (act : State → State) (hact : ∀ t, RunFollows t → RunFollows (act t))
    (h : RunFollows s) : RunFollows (arrive l f act s) := by
  have taken (t : State) (ht : RunFollows t) : RunFollows (takeOrHold l f act t) := by
    unfold takeOrHold
    split
    · exact hact t ht
    · exact ht.of_course (course_modifyLink t l _)
  unfold arrive
  split
  · exact taken s h
  · split
    · exact h.of_course (course_modifyLink s l _)
    · exact taken _ (takePending_follows l h)

theorem receive_follows (l : Fin 4) (b : Byte) (h : RunFollows s) : RunFollows (receive l b s) := by
  have changed (f : Link → Link) : RunFollows (modifyLink l f s) := h.of_course (course_modifyLink s l f)
  unfold receive
  split
  · split
    · exact changed _
    · exact h
  · split <;> exact changed _
  · split <;> exact changed _
  · split
    · exact arrive_follows l _ _ (fun t ht => takeFrame_follows l _ ht) (changed _)
    · exact changed _
    · exact changed _

theorem placeWaiting_follows (l : Fin 4) (h : RunFollows s) : RunFollows (placeWaiting l s) := by
  unfold placeWaiting
  split
  · exact h
  · split
    · exact h.of_course (course_modifyLink s l _)
    · exact h

/-! ## Line events -/

theorem encoderChange_follows (phase : Fin 4) (g : GaugeCodes) (order : List PitchBlock) (h : RunFollows s) :
    RunFollows (encoderChange phase g order s) := by
  have hphase : RunFollows { s with tracker.phase := phase } := h.of_drive rfl
  unfold encoderChange
  dsimp only
  split
  · exact hphase
  · exact forwardPitch_follows g order hphase
  · exact takeCause_follows _ hphase
  · unfold reversePitch
    dsimp only
    split
    · exact takeCause_follows _ (hphase.of_drive rfl)
    · exact hphase.of_drive rfl

/-- The timer that has run out was running, so the conveyor runs and its cause halts it (R10). -/
theorem stallExpires_follows (h : RunFollows s) : RunFollows (stallExpires s) := by
  have hidle : RunFollows { s with tracker.stall := none } := ⟨h.1, fun _ => rfl⟩
  unfold stallExpires
  split
  · exact takeCause_follows _ hidle
  · exact h

theorem returnExpires_follows (a : Fin 12) (h : RunFollows s) : RunFollows (returnExpires a s) := by
  unfold returnExpires jam
  split
  · exact (takeCause_follows _ (h.of_course (course_modifyArch s a _))).of_course
      ((course_reevaluate _ _).trans (course_archNotice _ _ _))
  · exact h

theorem buildRecord_steered (n : Nat) (sale : Sale) (s : State) : Steered s (buildRecord n sale s) := by
  have hwatched : Steered s (settleWatched { s with entry.carCounter := stepOn 65535 n }) := .of_course (course_settleWatched _)
  unfold buildRecord
  refine .then_course ?_ (course_countAdmitted _ _)
  refine .then_course (hwatched.trans ?_) (course_watching _ _)
  exact .of_tracker rfl rfl

theorem handCloseFollow_steered (n : Nat) (close : Bool) (s : State) : Steered s (handCloseFollow n close s) := by
  unfold handCloseFollow
  split
  · exact (Steered.of_course (course_tagCar s n _)).trans (takeCause_steered _ _)
  · exact .refl s

theorem admitTicket_follows (t : Ticket) (h : StallIdle s) : RunFollows (admitTicket t s) := by
  have ended (u : State) : Steered u (match u.entry.call with
      | none => u
      | some k => endCall k u) := by
    split
    · exact .refl u
    · exact endCall_steered _ u
  refine arbitrate_follows (Steered.evaluated (s := s) ?_ h)
  refine .trans ?_ (handCloseFollow_steered _ _ _)
  refine .then_course ?_ ((course_ticketNotice _ _ _ _ _).trans ((course_pulseRoller _).trans (course_forget _)))
  refine .trans ?_ (ended _)
  exact (buildRecord_steered _ _ s).then_course (course_dropTicket _ _)

theorem admitUnbidden_follows (h : StallIdle s) : RunFollows (admitUnbidden s) := by
  refine arbitrate_follows (Steered.evaluated (s := s) ?_ h)
  refine .trans ?_ (handCloseFollow_steered _ _ _)
  refine .then_course ?_ ((course_notify _ _ _).trans ((course_tagCar _ _ _).trans (course_pulseRoller _)))
  exact (buildRecord_steered _ _ s).then_course (course_forget _)

theorem admitOpen_follows (h : StallIdle s) : RunFollows (admitOpen s) := by
  unfold admitOpen
  split
  · split
    · exact admitTicket_follows _ h
    · exact admitUnbidden_follows h
  · split
    · split
      · exact admitTicket_follows _ h
      · exact admitUnbidden_follows h
    · exact admitUnbidden_follows h

theorem entryFront_follows (h : RunFollows s) : RunFollows (entryFront s) := by
  unfold entryFront
  split
  · exact h.of_course (course_modifyHalt s _)
  · exact h.of_course (course_modifyHalt s _)
  · exact takeCause_follows _ h
  · exact h.of_course (course_notify s _ _)
  · split
    · exact admitOpen_follows h.stallIdle
    · exact takeCause_follows _ h
  · split
    · exact admitUnbidden_follows h.stallIdle
    · exact takeCause_follows _ h

theorem entryClosing_follows (h : RunFollows s) : RunFollows (entryClosing s) := by
  have hclosed : RunFollows { s with entry.entryClosed := true } := h
  unfold entryClosing
  dsimp only
  split
  · exact hclosed
  · exact (entryFront_follows hclosed).of_drive rfl

theorem exitFront_follows (h : RunFollows s) : RunFollows (exitFront s) := by
  unfold exitFront
  split
  · unfold exitMatched
    exact arbitrate_follows (removeCar_follows _ _ h.stallIdle)
  · unfold exitStray
    split
    · exact h.of_course (course_modifyHalt s _)
    · exact takeCause_follows _ h

theorem exitClosing_follows (h : RunFollows s) : RunFollows (exitClosing s) := by
  have hclosed : RunFollows { s with entry.exitClosed := true } := h
  unfold exitClosing
  dsimp only
  split
  · exact hclosed
  · exact (exitFront_follows hclosed).of_drive rfl

theorem callLapses_follows (h : RunFollows s) : RunFollows (callLapses s) := by
  have lapsed (t : Ticket) : course (lapseTicket t s) = course s := by
    unfold lapseTicket
    dsimp only
    split <;> rfl
  unfold callLapses
  split
  · exact h
  · split
    · dsimp only
      split
      · exact Steered.evaluated (s := s) (.of_tracker rfl rfl) h.stallIdle
      · exact Steered.evaluated (s := s) ((Steered.of_course (lapsed _)).trans (.of_tracker rfl rfl)) h.stallIdle
    · exact h

theorem graceExpires_follows (h : RunFollows s) : RunFollows (graceExpires s) := by
  unfold graceExpires
  split
  · exact arbitrate_follows (h.of_course (course_forget s))
  · exact h

theorem driveOf_holdExpires (n : Nat) (s : State) : driveOf (holdExpires n s) = driveOf s := by
  unfold holdExpires
  repeat' split
  all_goals rfl

theorem estopChange_follows (asserted : Bool) (h : RunFollows s) : RunFollows (estopChange asserted s) := by
  have hline : RunFollows { s with supervisor.estop := asserted } := h
  unfold estopChange
  dsimp only
  split
  · exact takeCause_follows _ hline
  · exact hline

/-- The restart window runs in RESTARTING alone (R135), so its end leaves the conveyor stopped (R138). -/
theorem windowExpires_follows (hl : HaltLaw s) (h : RunFollows s) : RunFollows (windowExpires s) := by
  obtain ⟨-, hrestart, -⟩ := hl
  unfold windowExpires
  split
  next hout =>
    have hsome : s.supervisor.restart.isSome := by
      obtain ⟨a, ha, -⟩ := Option.map_eq_some_iff.mp ((ranOut_iff _).mp hout)
      simp [ha]
    exact endAttempt_follows _ _ (by simp [stopped, hrestart.mp hsome]) h
  · exact h

theorem driveOf_saveExpires (verified : Bool) (s : State) : driveOf (saveExpires verified s) = driveOf s := by
  unfold saveExpires
  repeat' split
  all_goals rfl

theorem driveOf_saveReported (passed : Bool) (s : State) : driveOf (saveReported passed s) = driveOf s := by
  unfold saveReported
  split <;> rfl

theorem driveOf_treadleOpens (t : Treadle) (s : State) : driveOf (treadleOpens t s) = driveOf s := by cases t <;> rfl

theorem pulseEnds_follows (h : RunFollows s) : RunFollows (pulseEnds s) := by
  unfold pulseEnds
  split <;> exact h

/-! ## Starts and the supply -/

theorem reset_follows : RunFollows State.reset := by
  rw [runFollows_iff]
  exact ⟨rfl, fun _ => rfl⟩

/-- After a start the tunnel is CLOSED and the conveyor stands, unless the emergency stop halts it (R191, R144). -/
theorem start_follows (lines : LineLevels) (s : State) : RunFollows (start lines s) := by
  have hblocks : RunFollows (setAvailability (resetBlocks lines (loadImage lines s))) := reset_follows.of_drive rfl
  unfold start estopAtStart
  split
  · exact takeCause_follows _ hblocks
  · exact hblocks

/-! ## Every command -/

theorem settleEvent_follows (h : RunFollows s) : RunFollows (settleEvent s) := (takeCauses_follows h).of_course (course_flush _)

/-- The state that a command leads to meets R7. -/
def LeadsToRunFollowing (o : Host.Outcome State Fault Refusal) : Prop := ∀ t, o = .next t → RunFollows t

theorem event_follows (f : State → State) (h : RunFollows s) (hf : RunFollows (f s)) : LeadsToRunFollowing (event f s) := by
  intro t ht
  unfold event at ht
  split at ht
  · obtain rfl := Host.Outcome.next.inj ht
    exact settleEvent_follows hf
  · obtain rfl := Host.Outcome.next.inj ht
    exact h

theorem supplyEvent_follows (f : State → State) (hf : RunFollows (f s)) : LeadsToRunFollowing (supplyEvent f s) := by
  intro t ht
  obtain rfl := Host.Outcome.next.inj ht
  exact settleEvent_follows hf

/-- A request command: its frame arrives and its owner acts. -/
theorem request_follows (l : Fin 4) (i : Instr) (h : RunFollows s) : LeadsToRunFollowing (request l i (runRequest i) s) :=
  event_follows _ h (arrive_follows l _ _ (fun _ ht => (runRequest_follows i ht).of_course (course_answer _ _ _)) h)

theorem exec_follows (i : Instr) (hl : HaltLaw s) (h : RunFollows s) : LeadsToRunFollowing (exec i s) := by
  have linkChanged (l : Fin 4) (f : Link → Link) : LeadsToRunFollowing (event (modifyLink l f) s) :=
    event_follows _ h (h.of_course (course_modifyLink s l f))
  cases i with
  | unknownKindRequest => exact event_follows _ h (arrive_follows _ _ _ (fun _ ht => takeFrame_follows _ _ ht) h)
  | receiveByte => exact event_follows _ h (receive_follows _ _ h)
  | interByteTimeout => exact linkChanged _ _
  | transmitByteSent => exact linkChanged _ _
  | responsePlaced => exact event_follows _ h (placeWaiting_follows _ h)
  | pendingFrameTaken => exact event_follows _ h (takePending_follows _ h)
  | encoderLineChange => exact event_follows _ h (encoderChange_follows _ _ _ h)
  | conveyorStall => exact event_follows _ h (stallExpires_follows h)
  | loadCodeReceived => exact event_follows _ h (h.of_course (course_modifyArch s _ _))
  | homeSwitchChange => exact event_follows _ h (h.of_course (course_modifyArch s _ _))
  | returnTimeout => exact event_follows _ h (returnExpires_follows _ h)
  | entryTreadleClosing => exact event_follows _ h (entryClosing_follows h)
  | treadleOpening => exact event_follows _ h (h.of_drive (driveOf_treadleOpens _ s))
  | exitTreadleClosing => exact event_follows _ h (exitClosing_follows h)
  | presenceLoopChange => exact event_follows _ h (arbitrate_follows (h.of_drive rfl))
  | callLapse => exact event_follows _ h (callLapses_follows h)
  | graceExpiry => exact event_follows _ h (graceExpires_follows h)
  | holdExpiry => exact event_follows _ h (h.of_drive (driveOf_holdExpires _ s))
  | estopLineChange => exact event_follows _ h (estopChange_follows _ h)
  | restartWindowExpiry => exact event_follows _ h (windowExpires_follows hl h)
  | saveStageBegin => exact event_follows _ h (h.of_drive rfl)
  | saveReport => exact event_follows _ h (h.of_drive (driveOf_saveReported _ s))
  | saveTimeout => exact event_follows _ h (h.of_drive (driveOf_saveExpires _ s))
  | rollerPulseEnd => exact event_follows _ h (pulseEnds_follows h)
  | powerOnReset => exact supplyEvent_follows _ (start_follows _ _)
  | lineReset => exact event_follows _ h (start_follows _ _)
  | lossOfSupply => exact event_follows _ h (reset_follows.of_drive rfl)
  | quote l plan extras slot lane => exact request_follows l (.quote l plan extras slot lane) h
  | confirm l ticket tender => exact request_follows l (.confirm l ticket tender) h
  | cancel l ticket => exact request_follows l (.cancel l ticket) h
  | voidTicket l ticket => exact request_follows l (.voidTicket l ticket) h
  | requeue l ticket => exact request_follows l (.requeue l ticket) h
  | queryTickets l ticket first => exact request_follows l (.queryTickets l ticket first) h
  | halt l => exact request_follows l (.halt l) h
  | pullCar l car => exact request_follows l (.pullCar l car) h
  | openTunnel l => exact request_follows l (.openTunnel l) h
  | closeTunnel l => exact request_follows l (.closeTunnel l) h
  | restart l => exact request_follows l (.restart l) h
  | clearTunnel l => exact request_follows l (.clearTunnel l) h
  | queryTunnel l car first => exact request_follows l (.queryTunnel l car first) h
  | queryHalt l part => exact request_follows l (.queryHalt l part) h
  | setArchService l arch setting => exact request_follows l (.setArchService l arch setting) h
  | clearJam l arch => exact request_follows l (.clearJam l arch) h
  | queryArch l arch first => exact request_follows l (.queryArch l arch first) h
  | editPlan l plan record => exact request_follows l (.editPlan l plan record) h
  | editExtra l extra record => exact request_follows l (.editExtra l extra record) h
  | editDiscount l slot record => exact request_follows l (.editDiscount l slot record) h
  | editService l service name => exact request_follows l (.editService l service name) h
  | lockRange l first last => exact request_follows l (.lockRange l first last) h
  | queryCatalog l kind number => exact request_follows l (.queryCatalog l kind number) h
  | setArch l arch record => exact request_follows l (.setArch l arch record) h
  | setGauge l gauge first values => exact request_follows l (.setGauge l gauge first values) h
  | setSite l site => exact request_follows l (.setSite l site) h
  | setTestProfile l profile length first samples =>
    exact request_follows l (.setTestProfile l profile length first samples) h
  | setAccess l target entry => exact request_follows l (.setAccess l target entry) h
  | saveStore l => exact request_follows l (.saveStore l) h
  | queryStatus l part => exact request_follows l (.queryStatus l part) h
  | closeout l => exact request_follows l (.closeout l) h
  | readJournal l bank first => exact request_follows l (.readJournal l bank first) h
  | releaseBank l bank => exact request_follows l (.releaseBank l bank) h
  | rehearse l profile plan traced => exact request_follows l (.rehearse l profile plan traced) h
  | readTrace l first => exact request_follows l (.readTrace l first) h
  | subscribe l set => exact request_follows l (.subscribe l set) h

theorem idle_follows (h : RunFollows s) : RunFollows (idle s) := by
  have hunit : driveOf (passUnit s) = driveOf s := by simp [driveOf, passUnit, countDown]
  unfold idle
  split
  · exact h.of_drive hunit
  · exact h

/-- Settles O7: a step is 10 ms passing or one command, and neither leaves the run command apart from R7. -/
theorem runCommandFollowsTunnelTableAndCall : Obligations.RunCommandFollowsTunnelTableAndCall := by
  intro s t hl h hstep
  unfold step at hstep
  split at hstep
  · obtain rfl := Host.Outcome.next.inj hstep
    exact idle_follows h
  next i rest _ =>
    have hl' : HaltLaw { s with pending := rest } := hl
    have h' : RunFollows { s with pending := rest } := h
    exact exec_follows i hl' h' t hstep

end Sys2Proof.Machine
end

section
/-! The encoder's steps (R1 to R6): the tracker's update on a forward pitch, the order in which the blocks act, and what a reverse
step, a skipped state and the two expiries do. -/

namespace Sys2Proof.Machine

/-! ## The order of the blocks on a pitch (R3) -/

/-- The order's blocks are kept once each, and the Supervisor as often as it is named. -/
def nameOnce (named : List PitchBlock) (b : PitchBlock) : List PitchBlock :=
  if b ≠ .supervisor ∧ b ∈ named then named else named ++ [b]

theorem completeOrder_eq (order : List PitchBlock) :
    completeOrder order
      = order.foldl nameOnce [] ++ allBlocks.filter fun b => decide (b ∉ order.foldl nameOnce []) := rfl

theorem mem_foldl_nameOnce (b : PitchBlock) (order named : List PitchBlock) :
    b ∈ order.foldl nameOnce named ↔ b ∈ named ∨ b ∈ order := by
  induction order generalizing named with
  | nil => simp
  | cons x rest ih =>
    rw [List.foldl_cons, ih, nameOnce]
    split
    next h => grind
    next h => simp [or_assoc]

theorem count_foldl_nameOnce_le (b : PitchBlock) (hb : b ≠ .supervisor) (order named : List PitchBlock)
    (h : named.count b ≤ 1) : (order.foldl nameOnce named).count b ≤ 1 := by
  induction order generalizing named with
  | nil => exact h
  | cons x rest ih =>
    refine ih _ ?_
    unfold nameOnce
    split
    · exact h
    next hx =>
      rw [List.count_append]
      by_cases hxb : x = b
      · subst hxb
        have : x ∉ named := fun hm => hx ⟨hb, hm⟩
        simp [List.count_eq_zero.mpr this]
      · simpa [hxb] using h

/-- Blocks that are named once each are kept as they are named. -/
theorem foldl_nameOnce_of_nodup (order named : List PitchBlock)
    (h : ((named ++ order).filter (· ≠ .supervisor)).Nodup) : order.foldl nameOnce named = named ++ order := by
  induction order generalizing named with
  | nil => simp
  | cons x rest ih =>
    have hx : nameOnce named x = named ++ [x] := by
      refine if_neg fun ⟨hne, hm⟩ => ?_
      rw [List.filter_append, List.nodup_append] at h
      exact h.2.2 x (by simp [hm, hne]) x (by simp [hne]) rfl
    rw [List.foldl_cons, hx, ih _ (by simpa using h)]
    simp

theorem count_allBlocks (b : PitchBlock) (hb : b ≠ .supervisor) : allBlocks.count b = 1 := by
  refine List.count_eq_one_of_mem (by decide) ?_
  have arches : ∀ a : Fin 12, PitchBlock.arch a ∈ allBlocks := by decide
  cases b with
  | station => decide
  | arch a => exact arches a
  | entryExit => decide
  | supervisor => exact absurd rfl hb

theorem count_completeOrder (order : List PitchBlock) (b : PitchBlock) (hb : b ≠ .supervisor) :
    (completeOrder order).count b = 1 := by
  rw [completeOrder_eq, List.count_append]
  by_cases hm : b ∈ order.foldl nameOnce []
  · have hle := count_foldl_nameOnce_le b hb order [] (by simp)
    have hpos := List.count_pos_iff.mpr hm
    have hrest : (allBlocks.filter fun b => decide (b ∉ order.foldl nameOnce [])).count b = 0 :=
      List.count_eq_zero.mpr (by simp [hm])
    omega
  · rw [List.count_eq_zero.mpr hm, List.count_filter (by simpa using hm), count_allBlocks b hb]

theorem completeOrder_of_nodup (order : List PitchBlock) (h : (order.filter (· ≠ .supervisor)).Nodup) :
    ∃ rest, completeOrder order = order ++ rest ∧ .supervisor ∉ rest := by
  refine ⟨_, by rw [completeOrder_eq, foldl_nameOnce_of_nodup order [] h]; rfl, ?_⟩
  have : PitchBlock.supervisor ∉ allBlocks := by decide
  simp [this]

/-! ## The steps of the encoder (R1) -/

theorem classifyPhase_forward : ∀ reference : Fin 4, classifyPhase reference (reference + 1) = .forward := by decide
theorem classifyPhase_skipped : ∀ reference : Fin 4, classifyPhase reference (reference + 2) = .skipped := by decide
theorem classifyPhase_reverse : ∀ reference : Fin 4, classifyPhase reference (reference - 1) = .reverse := by decide

theorem exec_encoderLineChange (phase : Fin 4) (g : GaugeCodes) (order : List PitchBlock) (s : State) :
    exec (.encoderLineChange phase g order) s = event (encoderChange phase g order) s := rfl

theorem encoderChange_forward (g : GaugeCodes) (order : List PitchBlock) (s : State) :
    encoderChange (s.tracker.phase + 1) g order s
      = forwardPitch g order { s with tracker.phase := s.tracker.phase + 1 } := by
  simp [encoderChange, classifyPhase_forward]

theorem encoderChange_skipped (g : GaugeCodes) (order : List PitchBlock) (s : State) :
    encoderChange (s.tracker.phase + 2) g order s
      = takeCause .encoderSlip { s with tracker.phase := s.tracker.phase + 2 } := by
  simp [encoderChange, classifyPhase_skipped, skippedState]

theorem encoderChange_reverse (g : GaugeCodes) (order : List PitchBlock) (s : State) :
    encoderChange (s.tracker.phase - 1) g order s
      = reversePitch { s with tracker.phase := s.tracker.phase - 1 } := by
  simp [encoderChange, classifyPhase_reverse]

/-! ## The forward pitch -/

/-- The tracker's update on a forward pitch, field by field (R2, R12). -/
theorem forward_eq (t : Tracker) (allowance stall : Nat) :
    t.forward allowance stall =
      let pos := t.pos + 1
      let high := if 0 < signedDiff pos t.high then pos else t.high
      let window := if t.window.length < 16 then t.window ++ [t.interval] else (t.window ++ [t.interval]).drop 1
      { t with
        pos := pos
        high := high
        rolledBack := t.rolledBack && decide ((allowance : Int) < signedDiff high pos)
        window := window
        interval := t.commanded
        settle := window.foldl max t.commanded
        stall := t.stall.map fun _ => stall } := by
  have hwindow : (if 16 < (t.window ++ [t.interval]).length then (t.window ++ [t.interval]).drop 1
        else t.window ++ [t.interval])
      = if t.window.length < 16 then t.window ++ [t.interval] else (t.window ++ [t.interval]).drop 1 := by
    rw [List.length_append, List.length_singleton, ← ite_not]
    congr 1
    simp only [eq_iff_iff]
    omega
  have hback (d : Int) : (!decide (d ≤ (allowance : Int))) = decide ((allowance : Int) < d) := by
    rw [← decide_not, decide_eq_decide]
    exact not_le
  simp only [Tracker.forward, Tracker.settlePitch, Tracker.forwardPosition, settleDistance, fastest, hback, hwindow]
  rfl

/-- The state that a forward pitch is delivered in: the tracker's update alone has been made. -/
def pitched (s : State) : State := { s with tracker := s.tracker.forward s.settings.site.rollback (fullStall s) }

theorem forwardPitch_eq (g : GaugeCodes) (order : List PitchBlock) (s : State) :
    forwardPitch g order s =
      let x := (completeOrder order).foldl (blockActs (pitchEvent g (pitched s))) (pitched s, false)
      arbitrateWith x.2 (takeCauses x.1) := rfl

/-- The blocks, the causes and the arbiter leave the motion as the tracker's update left it. -/
theorem motionOf_forwardPitch (g : GaugeCodes) (order : List PitchBlock) (s : State) :
    motionOf (forwardPitch g order s) = motionOf (pitched s) := by
  have blocks (x : State × Bool) (e : PitchEvent) (l : List PitchBlock) : Steered x.1 (l.foldl (blockActs e) x).1 :=
    List.foldlRecOn (motive := fun y : State × Bool => Steered x.1 y.1) l _ (.refl x.1)
      fun y hy b _ => hy.trans (blockActs_steered e y b)
  exact ((blocks (pitched s, false) _ _).trans ((takeCauses_steered _).trans (arbitrateWith_steered _ _))).motion

theorem raised_forwardPitch (g : GaugeCodes) (order : List PitchBlock) (s : State) : (forwardPitch g order s).raised = [] :=
  (arbitrateWith_inert _ _).raised.trans (takeCauses_links _).2.1

theorem exec_forward_endsIn (g : GaugeCodes) (order : List PitchBlock) (s : State) (hp : s.powered = true) :
    EndsIn s (exec (.encoderLineChange (s.tracker.phase + 1) g order) s)
      (forwardPitch g order { s with tracker.phase := s.tracker.phase + 1 }) := by
  rw [exec_encoderLineChange, ← encoderChange_forward]
  refine event_ends _ s hp ?_
  rw [encoderChange_forward]
  exact raised_forwardPitch _ _ _

/-- A forward step answers a state whose motion is the tracker's update, with the queue of commands untouched. -/
theorem exec_forward_motion (g : GaugeCodes) (order : List PitchBlock) (s : State) (hp : s.powered = true) :
    ∃ t, exec (.encoderLineChange (s.tracker.phase + 1) g order) s = .next t ∧ t.pending = s.pending ∧
      motionOf t = motionOf (pitched { s with tracker.phase := s.tracker.phase + 1 }) := by
  have hflush (t : State) : motionOf (flush t) = motionOf t := motionOf_of_course (course_flush t)
  have hqueue (t : State) (q : List Instr) : motionOf { t with pending := q } = motionOf t := rfl
  refine ⟨_, exec_forward_endsIn g order s hp, rfl, ?_⟩
  exact (hqueue _ _).trans ((hflush _).trans (motionOf_forwardPitch g order _))

/-- Settles O54: the pitch is the model's own delivery, and nothing after the tracker's update touches its motion. -/
theorem forwardPitchMovesTheConveyor : Obligations.ForwardPitchMovesTheConveyor := by
  refine ⟨fun order => ⟨count_completeOrder order, completeOrder_of_nodup order⟩, ?_⟩
  rintro phase gauges order s hp rfl
  constructor
  · intro pos high window settle moved wheel act acted
    have hmoved : pitched { s with tracker.phase := s.tracker.phase + 1 } = moved := by
      rw [pitched, forward_eq]
      rfl
    have hact : act = blockActs (pitchEvent gauges moved) := by
      funext x b
      cases b with
      | arch a => simp [act, blockActs, archPitch, pitchEvent, moved]
      | _ => rfl
    have hends := exec_forward_endsIn gauges order s hp
    rwa [forwardPitch_eq, hmoved, ← hact] at hends
  · obtain ⟨t, ht, hpending, hmotion⟩ := exec_forward_motion gauges order s hp
    rw [pitched, forward_eq] at hmotion
    obtain ⟨hphase, hpos, hhigh, hrolled, hwindow, hsettings⟩ := (motionOf_eq_iff _ t).mp hmotion
    have hback : t.tracker.rolledBack = (s.tracker.rolledBack &&
        decide ((s.settings.site.rollback : Int) < signedDiff t.tracker.high (s.tracker.pos + 1))) := by
      rw [hhigh]
      exact hrolled
    exact ⟨t, ht, hphase, hpos, fun h => hhigh.trans (if_pos h), fun h => hhigh.trans (if_neg (not_lt.mpr h)),
      by simp [hback], hwindow, hsettings, hpending⟩

/-! ## Reverse pitches, skipped states and the two expiries -/

/-- The first pitch beyond the allowance is a cause (R5). -/
theorem reversePitch_eq (s : State) :
    reversePitch s =
      let back := { s with tracker.pos := s.tracker.pos - 1 }
      if (s.settings.site.rollback : Int) < signedDiff s.tracker.high (s.tracker.pos - 1) ∧ s.tracker.rolledBack = false then
        takeCause .conveyorReverse { back with tracker.rolledBack := true }
      else back := by
  unfold reversePitch
  dsimp only
  refine if_congr ?_ rfl rfl
  simp only [beyondRollback, Bool.and_eq_true, decide_eq_true_eq, Bool.not_eq_true']
  rfl

/-- A cause taken in an event that left none over ends the event. -/
theorem event_ends_takeCause (f : State → State) (c : Cause) (s t : State) (hs : Settled s) (hf : f s = takeCause c t)
    (ht : t.raised = s.raised) : EndsIn s (event f s) (takeCause c t) := by
  obtain ⟨hpowered, hraised, -⟩ := hs
  rw [← hf]
  exact event_ends f s hpowered (by rw [hf, (takeCause_inert t c).raised, ht, hraised])

/-- An event that raises nothing and takes nothing ends in what it did. -/
theorem event_ends_quiet (f : State → State) (s t : State) (hs : Settled s) (hf : f s = t) (ht : t.raised = s.raised) :
    EndsIn s (event f s) t := by
  obtain ⟨hpowered, hraised, -⟩ := hs
  subst hf
  exact event_ends f s hpowered (ht.trans hraised)

/-- Settles O55: each of the four steps and expiries by its own condition. -/
theorem reverseSlipStallAndPulseEnd : Obligations.ReverseSlipStallAndPulseEnd := by
  intro gauges order s hs o back beyond
  have hback : encoderChange (s.tracker.phase - 1) gauges order s
      = if beyond ∧ s.tracker.rolledBack = false then takeCause .conveyorReverse { back with tracker.rolledBack := true }
        else back := by
    rw [encoderChange_reverse]
    exact reversePitch_eq _
  have hstill (timer : Option Nat) (h : timer ≠ some 0) : ranOut timer = false :=
    Bool.eq_false_iff.mpr (mt (ranOut_iff timer).mp h)
  refine ⟨fun h => ?_, fun h hr => ?_, ?_, fun h => ?_, fun h => ?_, fun h => ?_, fun h => ?_⟩
  · refine event_ends_quiet _ s back hs ?_ rfl
    rw [hback, if_neg]
    rintro ⟨hb, hr⟩
    simp [hb, hr] at h
  · exact event_ends_takeCause _ _ s _ hs (by rw [hback, if_pos ⟨h, hr⟩]) rfl
  · exact event_ends_takeCause _ _ s _ hs (encoderChange_skipped gauges order s) rfl
  · exact event_ends_takeCause stallExpires _ s _ hs (by rw [stallExpires, if_pos ((ranOut_iff _).mpr h)]) rfl
  · exact event_ends_quiet stallExpires s s hs (by simp [stallExpires, hstill _ h]) rfl
  · exact event_ends_quiet pulseEnds s _ hs (by rw [pulseEnds, if_pos ((ranOut_iff _).mpr h)]) rfl
  · exact event_ends_quiet pulseEnds s s hs (by simp [pulseEnds, hstill _ h]) rfl

end Sys2Proof.Machine
end

section
/-! The event lists (R38 to R44): entries are placed in order, fire when due, and settle the car's status. -/

namespace Sys2Proof.Machine

/-! ## One arch changed, one car changed -/

@[simp] theorem archAt_modifyArch_same (a : Fin 12) (f : Arch → Arch) (s : State) :
    archAt a (modifyArch a f s) = f (archAt a s) := get_modifyAt_same s.arches a f

theorem archAt_modifyArch_other (a b : Fin 12) (f : Arch → Arch) (s : State) (h : b ≠ a) :
    archAt b (modifyArch a f s) = archAt b s := get_modifyAt_other s.arches a b f h

theorem archAt_congr {s t : State} (h : t.arches = s.arches) (a : Fin 12) : archAt a t = archAt a s := by
  rw [archAt, h, archAt]

@[simp] theorem archAt_modifyCar (a : Fin 12) (n : Nat) (f : Car → Car) (s : State) :
    archAt a (modifyCar n f s) = archAt a s := rfl
@[simp] theorem archAt_setStatus (a b : Fin 12) (n : Nat) (st : ArchStatus) (s : State) :
    archAt a (setStatus n b st s) = archAt a s := rfl
@[simp] theorem archAt_tagCar (a : Fin 12) (n : Nat) (t : Tag) (s : State) : archAt a (tagCar n t s) = archAt a s := rfl
@[simp] theorem archAt_recomputeClass (a : Fin 12) (s : State) : archAt a (recomputeClass s) = archAt a s := rfl

@[simp] theorem archAt_handStatus (a b : Fin 12) (n : Nat) (s : State) : archAt a (handStatus b n s) = archAt a s := by
  unfold handStatus statusSettled
  repeat' split
  all_goals rfl

@[simp] theorem findCar_modifyArch (n : Nat) (a : Fin 12) (f : Arch → Arch) (s : State) :
    findCar n (modifyArch a f s) = findCar n s := rfl

/-- A change of every record that keeps the numbers changes the record that is found. -/
theorem findCar_mapTable (n : Nat) (f : Car → Car) (hf : ∀ c, (f c).number = c.number) (s t : State)
    (h : t.entry.table = s.entry.table.map f) : findCar n t = (findCar n s).map f := by
  simp only [findCar, h, List.find?_map, Function.comp_def, hf]

theorem findCar_modifyCar (n : Nat) (f : Car → Car) (hf : ∀ c, (f c).number = c.number) (s : State) :
    findCar n (modifyCar n f s) = (findCar n s).map f := by
  rw [findCar_mapTable n (fun c => if c.number = n then f c else c) (fun c => by split <;> simp [hf]) s _ rfl]
  refine Option.map_congr fun c hc => ?_
  have hn : c.number = n := by simpa using List.find?_some hc
  simp [hn]

theorem findCar_setStatus (n : Nat) (a : Fin 12) (st : ArchStatus) (s : State) :
    findCar n (setStatus n a st s)
      = (findCar n s).map fun c => { c with statuses := c.statuses.set a.val (some st) a.isLt } :=
  findCar_modifyCar n (fun c => { c with statuses := c.statuses.set a.val (some st) a.isLt }) (fun _ => rfl) s

theorem apply_keeps (k : Nat) (c : Car) : (c.apply k).number = c.number ∧ (c.apply k).statuses = c.statuses := by
  unfold Car.apply
  split <;> exact ⟨rfl, rfl⟩

/-- Recomputing the conveyor class leaves every status alone. -/
theorem statuses_recomputeClass (n : Nat) (s : State) :
    (findCar n (recomputeClass s)).map (·.statuses) = (findCar n s).map (·.statuses) := by
  rw [findCar_mapTable n _ (fun c => (apply_keeps _ c).1) s _ rfl, Option.map_map]
  exact Option.map_congr fun c _ => (apply_keeps _ c).2

/-- A car that leaves the domain keeps its statuses (R69). -/
theorem statuses_handStatus (a : Fin 12) (n : Nat) (s : State) :
    (findCar n (handStatus a n s)).map (·.statuses) = (findCar n s).map (·.statuses) := by
  unfold handStatus statusSettled
  split
  · split
    · rfl
    · split
      · rw [statuses_recomputeClass, findCar_modifyCar n _ (by simp), Option.map_map]
        rfl
      · rfl
  · rfl

/-! ## The order of an event list (R40) -/

theorem le_of_eventBefore (p : Pos) (cars : List Nat) (x y : ArchEvent) (h : eventBefore p cars x y = true) :
    signedDiff x.position p ≤ signedDiff y.position p := by
  unfold eventBefore at h
  by_contra hlt
  simp [not_le.mp hlt, not_lt.mpr (not_le.mp hlt).le] at h

theorem le_of_not_eventBefore (p : Pos) (cars : List Nat) (x y : ArchEvent) (h : eventBefore p cars x y ≠ true) :
    signedDiff y.position p ≤ signedDiff x.position p := by
  unfold eventBefore at h
  by_contra hlt
  simp [not_le.mp hlt] at h

theorem placeEvent_perm (p : Pos) (cars : List Nat) (e : ArchEvent) (l : List ArchEvent) :
    (placeEvent p cars e l).Perm (e :: l) := by
  induction l with
  | nil => exact .refl _
  | cons x rest ih =>
    unfold placeEvent
    split
    · exact .refl _
    · exact (ih.cons x).trans (.swap e x rest)

/-- A list in order of its signed distances from a position. -/
def InOrder (p : Pos) (l : List ArchEvent) : Prop :=
  l.Pairwise fun x y => signedDiff x.position p ≤ signedDiff y.position p

theorem placeEvent_inOrder (p : Pos) (cars : List Nat) (e : ArchEvent) (l : List ArchEvent) (h : InOrder p l) :
    InOrder p (placeEvent p cars e l) := by
  induction l with
  | nil => exact List.pairwise_singleton _ e
  | cons x rest ih =>
    obtain ⟨hx, hrest⟩ := List.pairwise_cons.mp h
    unfold placeEvent
    split
    next hbefore =>
      have hex := le_of_eventBefore p cars e x hbefore
      refine List.pairwise_cons.mpr ⟨fun y hy => ?_, h⟩
      obtain rfl | hy := List.mem_cons.mp hy
      · exact hex
      · exact hex.trans (hx y hy)
    next hafter =>
      refine List.pairwise_cons.mpr ⟨fun y hy => ?_, ih hrest⟩
      obtain rfl | hy := List.mem_cons.mp ((placeEvent_perm p cars e rest).mem_iff.mp hy)
      · exact le_of_not_eventBefore p cars _ x hafter
      · exact hx y hy

theorem orderEvents_perm (p : Pos) (cars : List Nat) (l : List ArchEvent) : (orderEvents p cars l).Perm l := by
  have step : ∀ (l acc : List ArchEvent), (l.foldl (fun acc e => placeEvent p cars e acc) acc).Perm (l ++ acc) := by
    intro l
    induction l with
    | nil => exact fun acc => .refl acc
    | cons x rest ih =>
      exact fun acc => ((ih _).trans ((placeEvent_perm p cars x acc).append_left rest)).trans List.perm_middle
  simpa [orderEvents] using step l []

theorem orderEvents_inOrder (p : Pos) (cars : List Nat) (l : List ArchEvent) : InOrder p (orderEvents p cars l) :=
  List.foldlRecOn (motive := InOrder p) l _ List.Pairwise.nil fun _ h e _ => placeEvent_inOrder p cars e _ h

/-- Two entries, the first of which stands before the second and not after it, are put in that order. -/
theorem orderEvents_pair (p : Pos) (cars : List Nat) (x y : ArchEvent) (h : eventBefore p cars x y = true)
    (h' : eventBefore p cars y x = false) : orderEvents p cars [x, y] = [x, y] ∧ orderEvents p cars [y, x] = [x, y] := by
  simp [orderEvents, placeEvent, h, h']

/-- Two entries at one position stand in the order of R40's table. -/
theorem eventBefore_at_one_position (p : Pos) (cars : List Nat) (x y : ArchEvent) (hp : x.position = y.position)
    (h : x.car = y.car ∧ x.kind = .engage ∧ y.kind = .release ∨ x.car ≠ y.car ∧ x.kind = .release ∧ y.kind = .engage ∨
      x.kind = y.kind ∧ cars.idxOf x.car < cars.idxOf y.car) :
    eventBefore p cars x y = true ∧ eventBefore p cars y x = false := by
  rcases h with ⟨hc, hx, hy⟩ | ⟨hc, hx, hy⟩ | ⟨hk, hi⟩
  · simp [eventBefore, hp, hc, hx, hy]
  · simp [eventBefore, hp, hc, Ne.symm hc, hx, hy]
  · have hc : x.car ≠ y.car := fun hc => by simp [hc] at hi
    cases hy : y.kind <;> simp [eventBefore, hp, hc, Ne.symm hc, hk, hy, hi, hi.le]

/-! ## Insertion (R38, R39) -/

theorem mem_allArches : ∀ a : Fin 12, a ∈ allArches := by decide

theorem insertEvent_perm (a : Fin 12) (e : ArchEvent) (s : State) :
    (archAt a (insertEvent a e s)).events.Perm (e :: (archAt a s).events) := by
  rw [insertEvent, archAt_modifyArch_same]
  exact (placeEvent_perm _ _ e _).trans ((orderEvents_perm _ _ _).cons e)

theorem archAt_insertEvent_other (a b : Fin 12) (e : ArchEvent) (s : State) (h : b ≠ a) :
    archAt b (insertEvent a e s) = archAt b s := archAt_modifyArch_other a b _ s h

/-- One entry for each arch of a list leaves the other arches alone. -/
theorem archAt_insertEach_other (entry : Fin 12 → ArchEvent) (a : Fin 12) (l : List (Fin 12)) (s : State) (h : a ∉ l) :
    archAt a (l.foldl (fun t b => insertEvent b (entry b) t) s) = archAt a s := by
  induction l generalizing s with
  | nil => rfl
  | cons b rest ih =>
    rw [List.foldl_cons, ih _ (fun hm => h (.tail b hm)), archAt_insertEvent_other b a _ s (fun hab => h (hab ▸ .head _))]

/-- One entry for each arch of a list, no arch twice, gives each of them its entry. -/
theorem archAt_insertEach_mem (entry : Fin 12 → ArchEvent) (a : Fin 12) (l : List (Fin 12)) (s : State) (hl : l.Nodup)
    (h : a ∈ l) :
    (archAt a (l.foldl (fun t b => insertEvent b (entry b) t) s)).events.Perm (entry a :: (archAt a s).events) := by
  induction l generalizing s with
  | nil => cases h
  | cons b rest ih =>
    obtain ⟨hb, hrest⟩ := List.nodup_cons.mp hl
    rw [List.foldl_cons]
    obtain rfl | hm := List.mem_cons.mp h
    · rw [archAt_insertEach_other entry a rest _ hb]
      exact insertEvent_perm a _ s
    · have hab : a ≠ b := fun hab => hb (hab ▸ hm)
      rw [← archAt_insertEvent_other b a (entry b) s hab]
      exact ih _ hrest hm

theorem archesWith_nodup (c : Car) (p : Option ArchStatus → Bool) (s : State) : (archesWith c p s).Nodup :=
  List.Nodup.filter _ (by decide)

theorem mem_archesWith (c : Car) (p : Option ArchStatus → Bool) (s : State) (a : Fin 12) :
    a ∈ archesWith c p s ↔ (layoutAt a s).kind ≠ .unused ∧ p (c.statuses.get a) = true := by
  simp [archesWith, mem_allArches]

theorem insertEngages_eq {n : Nat} {c : Car} {o : Pos} {s : State} (hc : findCar n s = some c) (ho : c.origin = some o) :
    insertEngages n s = (archesWith c (· == some .pending) s).foldl
      (fun t a => insertEvent a { position := engagePosition o (layoutAt a s), car := n, kind := .engage } t) s := by
  simp only [insertEngages, hc, ho]

theorem insertReleases_eq {n : Nat} {c : Car} {o : Pos} {s : State} (hc : findCar n s = some c) (ho : c.origin = some o) :
    insertReleases n s = (archesWith c (·.isSome) s).foldl
      (fun t a => insertEvent a
        { position := releasePosition o (sampledLength c) (layoutAt a s), car := n, kind := .release } t) s := by
  simp only [insertReleases, hc, ho]

/-! ## Firing (R42 to R44) -/

theorem goHome_frees (r : Layout) (site : Site) (x : Arch) :
    (x.goHome r site).engaged = none ∧ (x.goHome r site).events = x.events ∧ (x.goHome r site).trips = x.trips ∧
      (x.goHome r site).phase = (if isFollowing r.kind && !x.homeClosed then .returning else .parked) ∧
      (isFollowing r.kind = true → (x.goHome r site).command = r.maximum) := by
  unfold Arch.goHome
  cases hf : isFollowing r.kind <;> cases hh : x.homeClosed <;> simp

theorem fireEngage_events (a : Fin 12) (n : Nat) (s : State) :
    (archAt a (fireEngage a n s)).events = (archAt a s).events := by
  unfold fireEngage
  dsimp only
  repeat' split
  all_goals simp [Arch.take]

/-- An arch engaged with the car lets it go (R44). -/
def letGo (a : Fin 12) (n : Nat) (s : State) : State := if (archAt a s).engaged = some n then startReturn a s else s

theorem archAt_letGo (a : Fin 12) (n : Nat) (s : State) :
    archAt a (letGo a n s)
      = if (archAt a s).engaged = some n then (archAt a s).goHome (layoutAt a s) s.settings.site else archAt a s := by
  unfold letGo
  split
  · exact archAt_modifyArch_same a _ s
  · rfl

theorem findCar_letGo (m : Nat) (a : Fin 12) (n : Nat) (s : State) : findCar m (letGo a n s) = findCar m s := by
  unfold letGo
  split <;> rfl

theorem letGo_events (a : Fin 12) (n : Nat) (s : State) : (archAt a (letGo a n s)).events = (archAt a s).events := by
  rw [archAt_letGo]
  split
  · exact (goHome_frees _ _ _).2.1
  · rfl

theorem fireRelease_eq {a : Fin 12} {n : Nat} {c : Car} {s : State} (hc : findCar n s = some c) :
    fireRelease a n s =
      if c.statuses.get a = some .active then
        handStatus a n (setStatus n a .done (modifyArch a (fun x => { x with trips := 0 }) (letGo a n s)))
      else letGo a n s := by
  simp only [fireRelease, hc]
  rfl

/-- The arch of a RELEASE that has fired: its trip count is 0 if the status was ACTIVE. -/
theorem archAt_fireRelease {a : Fin 12} {n : Nat} {c : Car} {s : State} (hc : findCar n s = some c) :
    archAt a (fireRelease a n s) =
      if c.statuses.get a = some .active then { archAt a (letGo a n s) with trips := 0 } else archAt a (letGo a n s) := by
  rw [fireRelease_eq hc]
  split <;> simp

/-- A RELEASE that fires on an ACTIVE status makes it DONE; it leaves any other status (R44). -/
theorem statuses_fireRelease {a : Fin 12} {n : Nat} {c : Car} {s : State} (hc : findCar n s = some c) :
    (findCar n (fireRelease a n s)).map (·.statuses)
      = some (if c.statuses.get a = some .active then c.statuses.set a.val (some .done) a.isLt else c.statuses) := by
  rw [fireRelease_eq hc]
  split
  · rw [statuses_handStatus, findCar_setStatus, findCar_modifyArch, findCar_letGo, hc]
    rfl
  · rw [findCar_letGo, hc]
    rfl

theorem fireRelease_events (a : Fin 12) (n : Nat) (s : State) :
    (archAt a (fireRelease a n s)).events = (archAt a s).events := by
  cases hc : findCar n s with
  | none =>
    have hgone : fireRelease a n s = letGo a n s := by simp only [fireRelease, hc]; rfl
    rw [hgone, letGo_events]
  | some c =>
    rw [archAt_fireRelease hc, ← letGo_events a n s]
    split <;> rfl

theorem fireEvent_events (a : Fin 12) (e : ArchEvent) (s : State) :
    (archAt a (fireEvent a s e)).events = (archAt a s).events := by
  unfold fireEvent
  split
  · exact fireEngage_events a e.car s
  · exact fireRelease_events a e.car s

/-- The entries that have fired leave the list, and firing inserts none. -/
theorem fireDue_events (a : Fin 12) (p : Pos) (before : List ArchEvent) (s : State) :
    (archAt a (fireDue a p before s)).events
      = (eventList a s).filter fun e => !(reached p e.position && decide (e ∈ before)) := by
  refine List.foldlRecOn (motive := fun t => (archAt a t).events = _) _ _ ?_ fun t ht e _ => ?_
  · simp
  · rw [fireEvent_events, ht]

/-! ## The statement's parts -/

theorem insertions_stand_where_given (n : Nat) (c : Car) (o : Pos) (a : Fin 12) (s : State) (hc : findCar n s = some c)
    (ho : c.origin = some o) :
    ((layoutAt a s).kind ≠ .unused → c.statuses.get a = some .pending →
      (archAt a (insertEngages n s)).events.Perm (⟨engagePosition o (layoutAt a s), n, .engage⟩ :: (archAt a s).events)) ∧
    (((layoutAt a s).kind = .unused ∨ c.statuses.get a ≠ some .pending) → archAt a (insertEngages n s) = archAt a s) ∧
    ((layoutAt a s).kind ≠ .unused → c.statuses.get a ≠ none →
      (archAt a (insertReleases n s)).events.Perm
        (⟨releasePosition o (sampledLength c) (layoutAt a s), n, .release⟩ :: (archAt a s).events)) ∧
    (((layoutAt a s).kind = .unused ∨ c.statuses.get a = none) → archAt a (insertReleases n s) = archAt a s) := by
  rw [insertEngages_eq hc ho, insertReleases_eq hc ho]
  refine ⟨fun hk hp => ?_, fun h => ?_, fun hk hp => ?_, fun h => ?_⟩
  · exact archAt_insertEach_mem _ a _ s (archesWith_nodup c _ s) ((mem_archesWith c _ s a).mpr ⟨hk, by simp [hp]⟩)
  · refine archAt_insertEach_other _ a _ s fun hm => ?_
    obtain ⟨hk, hp⟩ := (mem_archesWith c _ s a).mp hm
    exact h.elim hk (absurd (by simpa using hp))
  · exact archAt_insertEach_mem _ a _ s (archesWith_nodup c _ s)
      ((mem_archesWith c _ s a).mpr ⟨hk, Option.isSome_iff_ne_none.mpr hp⟩)
  · refine archAt_insertEach_other _ a _ s fun hm => ?_
    obtain ⟨hk, hp⟩ := (mem_archesWith c _ s a).mp hm
    exact h.elim hk (Option.isSome_iff_ne_none.mp hp)

theorem fireEngage_settles (a : Fin 12) (n : Nat) (c : Car) (s : State) (hc : findCar n s = some c)
    (hp : c.statuses.get a = some .pending) :
    fireEngage a n s =
      if (archAt a s).outOfService || (archAt a s).phase == .jammed then handStatus a n (setStatus n a .omitted s)
      else if stopped s then handStatus a n (tagCar n .halted (setStatus n a .skipped s))
      else if (archAt a s).engaged.isSome then handStatus a n (tagCar n .archBusy (setStatus n a .skipped s))
      else modifyArch a (Arch.take (layoutAt a s) n) (setStatus n a .active s) := by
  simp only [fireEngage, hc, hp]
  rfl

/-- Settles O38, part by part: insertion, the list's order, entries at one position, ENGAGE and RELEASE. -/
theorem engageAndReleaseSettleTheStatus : Obligations.EngageAndReleaseSettleTheStatus := by
  refine ⟨insertions_stand_where_given, ?_, ?_, ?_, ?_⟩
  · intro a p before s due
    exact ⟨orderEvents_perm _ _ _, orderEvents_inOrder _ _ _, rfl, fireDue_events a p before s⟩
  · intro p cars x y hp h
    obtain ⟨hxy, hyx⟩ := eventBefore_at_one_position p cars x y hp h
    exact orderEvents_pair p cars x y hxy hyx
  · intro a n c s hc t x unserved halted
    have hunserved : (x.outOfService || x.phase == .jammed) = true ↔ unserved := by simp [unserved]
    have hstopped : stopped s = true ↔ halted := by simp [stopped, halted]
    refine ⟨fun h => by simp [t, fireEngage, hc, h], fun hp => ?_⟩
    have ht := fireEngage_settles a n c s hc hp
    refine ⟨fun h => ?_, fun h hh => ?_, fun h hh he => ?_, fun h hh he => ?_⟩
    · exact ht.trans (if_pos (hunserved.mpr h))
    · rw [if_neg (mt hunserved.mp h), if_pos (hstopped.mpr hh)] at ht
      exact ht
    · rw [if_neg (mt hunserved.mp h), if_neg (mt hstopped.mp hh), if_pos (Option.isSome_iff_ne_none.mpr he)] at ht
      exact ht
    · rw [if_neg (mt hunserved.mp h), if_neg (mt hstopped.mp hh), if_neg (by simpa using he)] at ht
      exact ht
  · intro a n c s hc t
    have found (d : Car) (hd : findCar n t = some d) : d.statuses
        = if c.statuses.get a = some .active then c.statuses.set a.val (some .done) a.isLt else c.statuses := by
      simpa [t, hd] using statuses_fireRelease (a := a) hc
    have harch : archAt a t = if c.statuses.get a = some .active then { archAt a (letGo a n s) with trips := 0 }
        else archAt a (letGo a n s) := archAt_fireRelease hc
    have hkept : (archAt a t).engaged = (archAt a (letGo a n s)).engaged ∧
        (archAt a t).phase = (archAt a (letGo a n s)).phase ∧
        (archAt a t).command = (archAt a (letGo a n s)).command := by
      rw [harch]
      split <;> exact ⟨rfl, rfl, rfl⟩
    obtain ⟨hengaged, hphase, hcommand⟩ := hkept
    refine ⟨fun h hne => ?_, fun h d hd => ⟨?_, ?_⟩, fun h d hd => ?_, fun h => ?_, fun h => ?_⟩
    · rw [show t = fireRelease a n s from rfl, fireRelease_eq hc, if_neg h, letGo, if_neg hne]
    · rw [found d hd, if_pos h]
      exact get_set_same _ a _
    · rw [harch, if_pos h]
    · rw [found d hd, if_neg h]
    · have hhome := goHome_frees (layoutAt a s) s.settings.site (archAt a s)
      obtain ⟨hfree, -, -, hparked, hmaximum⟩ := hhome
      rw [hengaged, hphase, hcommand, archAt_letGo, if_pos h]
      exact ⟨hfree, hparked, hmaximum⟩
    · rw [hengaged, hphase, archAt_letGo, if_neg h]
      exact ⟨rfl, rfl⟩

end Sys2Proof.Machine
end

section
/-! The starts and the loss of supply (R144, R187, R190, R191): the image that is found, a part at rest that takes a cause, and
the links that notices leave resting. -/

namespace Sys2Proof.Machine

variable {s : State}

/-! ## A cause in a part at rest -/

/-- Nothing moves and nobody is in the tunnel: CLOSED, no car, no call, no remembered ticket, no arch at work, STOP. -/
abbrev AtRest (s : State) : Prop :=
  s.supervisor.tunnel = .closed ∧ s.entry.table = [] ∧ s.entry.call = none ∧ s.entry.remembered = none ∧
    s.tracker.run = false ∧ ∀ a, (archAt a s).phase ≠ .following ∧ (archAt a s).phase ≠ .spraying

theorem markHalt_of_empty (n : Nat) (h : s.entry.table = []) : markHalt n s = s := by
  unfold markHalt
  rw [h, List.map_nil, ← h]

theorem withdraw_of_idle (a : Fin 12) (h : (archAt a s).phase ≠ .following ∧ (archAt a s).phase ≠ .spraying) :
    withdraw s a = s := by
  simp [withdraw, h]

theorem withdrawAll_of_idle (h : ∀ a, (archAt a s).phase ≠ .following ∧ (archAt a s).phase ≠ .spraying) :
    withdrawAll s = s :=
  List.foldlRecOn (motive := fun t => t = s) _ _ rfl fun t ht a _ => by rw [ht, withdraw_of_idle a (h a)]

theorem cancelCall_of_none (h : s.entry.call = none) : cancelCall s = s := by simp [cancelCall, h]

theorem forget_of_none (h : s.entry.remembered = none) : forget s = s := by
  unfold forget
  rw [← h]

theorem dropPhantom_of_empty (h : s.entry.table = []) : dropPhantom s = s := by simp [dropPhantom, phantomCar, h]

/-- What the blocks do on entering HALTED changes nothing where there is nothing to stop (R131). -/
theorem haltSteps_of_nothing (n : Nat) (htable : s.entry.table = []) (hcall : s.entry.call = none)
    (hremembered : s.entry.remembered = none) (hrun : runWanted s = s.tracker.run)
    (harches : ∀ a, (archAt a s).phase ≠ .following ∧ (archAt a s).phase ≠ .spraying) :
    evaluateRun (dropPhantom (forget (cancelCall (withdrawAll (markHalt n s))))) = s := by
  rw [markHalt_of_empty n htable, withdrawAll_of_idle harches, cancelCall_of_none hcall, forget_of_none hremembered,
    dropPhantom_of_empty htable, evaluateRun_of_eq hrun]

/-- A first cause in a part at rest makes the halt record and its notice, and moves nothing (R130, R131). -/
theorem takeCause_of_atRest (c : Cause) (h : AtRest s) :
    ∃ body, takeCause c s = notify .halt body { s with supervisor := { s.supervisor with
      tunnel := .halted, halt := some (newHalt c s), haltCounter := (newHalt c s).number } } := by
  obtain ⟨htunnel, htable, hcall, hremembered, hrun, harches⟩ := h
  have hfirst : takeCause c s = firstCause c s := by simp only [takeCause, htunnel]
  have habandon : abandonRehearsal (newHalt c s).number s = s := by simp [abandonRehearsal, htunnel]
  rw [hfirst, firstCause]
  dsimp only
  rw [habandon]
  exact ⟨_, haltSteps_of_nothing _ htable hcall hremembered hrun.symm harches⟩

/-! ## Links at rest -/

/-- What a start leaves of a link beside its transmit queue: nothing received, nothing pending, nothing waiting (R183). -/
abbrev Link.Resting (k : Link) : Prop :=
  k.receiver = .hunt ∧ k.timer = none ∧ k.waiting = none ∧ k.pendingFrame = none ∧ k.overrun = false ∧ k.errors = 0 ∧
    k.timeouts = 0

theorem offerNotice_resting (n : Notice) (k : Link) (h : k.Resting) : (offerNotice n k).Resting := by
  unfold offerNotice
  dsimp only
  split <;> exact h

theorem sendNotice_resting (n : Notice) (h : ∀ l, (linkAt l s).Resting) (l : Fin 4) : (linkAt l (sendNotice s n)).Resting := by
  refine List.foldlRecOn (motive := fun t => ∀ l, (linkAt l t).Resting) _ _ h (fun t ht m _ => ?_) l
  split
  · intro l
    by_cases hl : l = m
    · subst hl
      rw [linkAt_modifyLink_same]
      exact offerNotice_resting n _ (ht l)
    · rw [linkAt_modifyLink_other m l _ t hl]
      exact ht l
  · exact ht

/-- Offering an event's notices leaves resting links resting (R176). -/
theorem flush_resting (h : ∀ l, (linkAt l s).Resting) (l : Fin 4) : (linkAt l (flush s)).Resting :=
  List.foldlRecOn (motive := fun t => ∀ l, (linkAt l t).Resting) (noticeOrder s.outbox) sendNotice
    (show ∀ l, (linkAt l { s with outbox := [] }).Resting from h) (fun _ ht n _ => sendNotice_resting n ht) l

theorem get_replicate_restingLink : ∀ l : Fin 4, (Vector.replicate 4 restingLink).get l = restingLink := by decide

theorem linkAt_of_cleared (h : s.links = Vector.replicate 4 restingLink) (l : Fin 4) : linkAt l s = restingLink := by
  rw [linkAt, h, get_replicate_restingLink]

theorem resting_of_cleared (h : s.links = Vector.replicate 4 restingLink) (l : Fin 4) : (linkAt l s).Resting := by
  rw [linkAt_of_cleared h l]
  exact ⟨rfl, rfl, rfl, rfl, rfl, rfl, rfl⟩

/-! ## The image that is found (R187, R190) -/

theorem mediumImage_eq (verified : Bool) (s : State) :
    mediumImage verified s =
      match s.store.save with
      | none => s.store.image
      | some k => if verified = true ∧ k.stage = .verifying then some ⟨k.snapshot, imageCheck k.snapshot⟩ else none := by
  unfold mediumImage
  cases s.store.save with
  | none => rfl
  | some k => simp [imageLeft, writtenImage]

theorem loadImage_of_passing (lines : LineLevels) {i : StoreImage} (hi : s.store.image = some i)
    (hc : i.check = imageCheck i.settings) :
    (loadImage lines s).settings = i.settings ∧ (loadImage lines s).store =
      { image := s.store.image, dirty := false, invalid := false, unconfigured := false, layoutPresent := true,
        save := none } := by
  have hload : loadable s.store.image = some i.settings := by
    rw [loadable_eq_some, hi, writtenImage, ← hc]
  unfold loadImage
  rw [hload]
  exact ⟨rfl, rfl⟩

theorem loadImage_of_failing (lines : LineLevels) (hc : ∀ i, s.store.image = some i → i.check ≠ imageCheck i.settings) :
    (loadImage lines s).settings = unconfiguredSettings ∧ (loadImage lines s).store =
      { image := s.store.image, dirty := false, invalid := true, unconfigured := true, layoutPresent := false,
        save := none } := by
  have hload : loadable s.store.image = none := by
    refine Option.eq_none_iff_forall_ne_some.mpr fun settings h => ?_
    exact hc _ ((loadable_eq_some _ _).mp h) rfl
  unfold loadImage
  rw [hload]
  exact ⟨rfl, rfl⟩

theorem loadImage_frame (lines : LineLevels) (s : State) :
    (loadImage lines s).strap = lines.strap ∧ (loadImage lines s).journal = s.journal ∧
      (loadImage lines s).links = s.links := by
  unfold loadImage
  split <;> exact ⟨rfl, rfl, rfl⟩

/-! ## A start -/

/-- The part after steps 2 to 4 of a start (R191). -/
def startedBlocks (lines : LineLevels) (s : State) : State := setAvailability (resetBlocks lines (loadImage lines s))

/-- The Supervisor after a start: CLOSED, or HALTED with halt 1 by an asserted emergency stop (R143, R144). -/
def startedSupervisor (estop : Bool) : Supervisor :=
  if estop then
    { tunnel := .halted
      halt := some { number := 1, first := { cause := .estop, position := 0 }, resume := .closed, further := [],
                     furtherLost := 0, entries := 0, strays := 0, pulled := 0, refusals := 0 }
      last := none, haltCounter := 1, restart := none, estop := true }
  else { State.reset.supervisor with estop := false }

theorem startedSupervisor_frame (estop : Bool) :
    (startedSupervisor estop).last = none ∧ (startedSupervisor estop).estop = estop := by
  cases estop <;> exact ⟨rfl, rfl⟩

theorem archAt_startedBlocks (lines : LineLevels) (s : State) (a : Fin 12) :
    archAt a (startedBlocks lines s)
      = startArch ((loadImage lines s).settings.layouts.get a) (loadImage lines s).settings.site (lines.homeClosed.get a) :=
  get_tabulate _ a

theorem startedBlocks_atRest (lines : LineLevels) (s : State) : AtRest (startedBlocks lines s) := by
  refine ⟨rfl, rfl, rfl, rfl, rfl, fun a => ?_⟩
  obtain ⟨-, -, -, hphase, -⟩ := goHome_frees ((loadImage lines s).settings.layouts.get a) (loadImage lines s).settings.site
    { restingArch with
      command := ((loadImage lines s).settings.layouts.get a).maximum
      outOfService := ((loadImage lines s).settings.layouts.get a).initiallyOut
      homeClosed := lines.homeClosed.get a }
  rw [archAt_startedBlocks, startArch, hphase]
  split <;> simp

theorem start_of_released (lines : LineLevels) (s : State) (h : lines.estop = false) :
    start lines s = startedBlocks lines s := if_neg (Bool.eq_false_iff.mp h)

theorem start_of_asserted (lines : LineLevels) (s : State) (h : lines.estop = true) :
    start lines s = takeCause .estop (startedBlocks lines s) := if_pos h

theorem supervisor_startedBlocks (lines : LineLevels) (s : State) :
    (startedBlocks lines s).supervisor = { State.reset.supervisor with estop := lines.estop } := rfl

/-- Without the emergency stop a start raises nothing and sends no notice. -/
theorem settleEvent_start_of_released (lines : LineLevels) (s : State) (h : lines.estop = false) :
    settleEvent (start lines s) = { startedBlocks lines s with
      links := s.links
      supervisor := startedSupervisor lines.estop } := by
  obtain ⟨-, -, hlinks⟩ := loadImage_frame lines s
  have hsupervisor : startedSupervisor lines.estop = (startedBlocks lines s).supervisor := by
    rw [supervisor_startedBlocks, h]
    rfl
  rw [start_of_released lines s h, settleEvent, takeCauses_none _ rfl, flush_none _ rfl, hsupervisor, ← hlinks]
  rfl

/-- An asserted emergency stop is taken in a part at rest: halt 1, and one notice (R144). -/
theorem settleEvent_start_of_asserted (lines : LineLevels) (s : State) (h : lines.estop = true)
    (hl : ∀ l, (linkAt l s).Resting) :
    ∃ links : Vector Link 4, (∀ l, (links.get l).Resting) ∧
      settleEvent (start lines s) = { startedBlocks lines s with
        links := links
        supervisor := startedSupervisor lines.estop } := by
  obtain ⟨body, hbody⟩ := takeCause_of_atRest .estop (startedBlocks_atRest lines s)
  obtain ⟨-, -, hlinks⟩ := loadImage_frame lines s
  have hsupervisor : startedSupervisor lines.estop = { (startedBlocks lines s).supervisor with
      tunnel := .halted
      halt := some (newHalt .estop (startedBlocks lines s))
      haltCounter := (newHalt .estop (startedBlocks lines s)).number } := by
    rw [supervisor_startedBlocks, h]
    rfl
  have hresting (l : Fin 4) : (linkAt l (start lines s)).Resting := by
    rw [start_of_asserted lines s h, hbody]
    show ((loadImage lines s).links.get l).Resting
    rw [hlinks]
    exact hl l
  have hraised : (start lines s).raised = [] := by
    rw [start_of_asserted lines s h, hbody]
    rfl
  obtain ⟨links, -, hflush⟩ := flush_frame (start lines s)
  refine ⟨links, fun l => ?_, ?_⟩
  · have hrest := flush_resting hresting l
    rwa [hflush] at hrest
  · rw [settleEvent, takeCauses_none _ hraised, hflush, start_of_asserted lines s h, hbody, hsupervisor]
    rfl

/-- A start and its notices leave the blocks at their reset values, the Supervisor by the emergency stop, and links that rest;
without the emergency stop the links are as the start found them. -/
theorem settleEvent_start (lines : LineLevels) (s : State) (hl : ∀ l, (linkAt l s).Resting) :
    ∃ links : Vector Link 4, (∀ l, (links.get l).Resting) ∧ (lines.estop = false → links = s.links) ∧
      settleEvent (start lines s) = { startedBlocks lines s with
        links := links
        supervisor := startedSupervisor lines.estop } := by
  cases he : lines.estop with
  | false => exact ⟨s.links, hl, fun _ => rfl, he ▸ settleEvent_start_of_released lines s he⟩
  | true =>
    obtain ⟨links, hresting, ht⟩ := settleEvent_start_of_asserted lines s he hl
    exact ⟨links, hresting, nofun, he ▸ ht⟩

/-! ## Line reset (R160, R183) -/

theorem loseTickets_inert (s : State) : Inert s (loseTickets s) := Inert.foldl _ (fun t k => submitTicket_inert t k _) _ _

/-- What is in flight is recorded in the journal; the links are cleared, and the medium is left as a save in flight leaves it. -/
theorem recordInFlight_spec (verified : Bool) (s : State) :
    (∀ l, (linkAt l (recordInFlight verified s)).Resting) ∧
      (recordInFlight verified s).store.image = mediumImage verified s ∧
      (recordInFlight verified s).journal = (loseTickets (removeAll .resetLost { s with
        links := Vector.replicate 4 restingLink
        raised := []
        outbox := [] })).journal := by
  let cleared : State := { s with links := Vector.replicate 4 restingLink, raised := [], outbox := [] }
  let recorded : State := loseTickets (removeAll .resetLost cleared)
  have hinert : Inert cleared recorded := (removeAll_inert cleared _).trans (loseTickets_inert _)
  let offered : State := { recorded with outbox := recorded.outbox.filter fun n => n.type == .journal }
  obtain ⟨links, -, hflush⟩ := flush_frame offered
  have hrecord : recordInFlight verified s = { flush offered with store.image := mediumImage verified (flush offered) } := rfl
  have hmedium : mediumImage verified (flush offered) = mediumImage verified s := by
    rw [hflush]
    show mediumImage verified { recorded with links := links, outbox := [] } = _
    unfold mediumImage
    rw [hinert.store]
  rw [hrecord]
  have hresting : ∀ l, (linkAt l (flush offered)).Resting := flush_resting (resting_of_cleared (s := offered) hinert.links)
  have hjournal : (flush offered).journal = recorded.journal := by rw [hflush]
  exact ⟨hresting, hmedium, hjournal⟩

/-! ## The three commands of the supply -/

theorem event_powered (f : State → State) (s : State) (hp : s.powered = true) :
    event f s = .next { settleEvent (f s) with pending := s.pending } := if_pos hp

theorem exec_powerOnReset (lines : LineLevels) (verified : Bool) (s : State) :
    exec (.powerOnReset lines verified) s = .next { settleEvent (powerOn lines verified s) with pending := s.pending } := rfl

theorem powerOn_of_powered (lines : LineLevels) (verified : Bool) (hp : s.powered = true) :
    powerOn lines verified s = start lines (loseSupply verified s) := by
  rw [powerOn, if_pos hp]

/-- Nothing is left to take or to offer once the supply is lost (R190). -/
theorem settleEvent_loseSupply (verified : Bool) (s : State) : settleEvent (loseSupply verified s) = loseSupply verified s := by
  rw [settleEvent, takeCauses_none _ rfl, flush_none _ rfl]

/-! ## The statement -/

/-- Settles O60: both resets are a start, from the medium alone or from what the line reset has recorded. -/
theorem startsAndLossOfSupply : Obligations.StartsAndLossOfSupply := by
  intro lines verified s image started
  have himage : mediumImage verified s = image := mediumImage_eq verified s
  have hstarted (u : State) (hu : u.store.image = image) (hl : ∀ l, (linkAt l u).Resting) :
      let t := { settleEvent (start lines u) with pending := s.pending }
      started t ∧ t.journal = u.journal ∧ (lines.estop = false → ∀ l, linkAt l t = linkAt l u) := by
    obtain ⟨hstrap, hjournal, -⟩ := loadImage_frame lines u
    obtain ⟨hlast, hestop⟩ := startedSupervisor_frame lines.estop
    obtain ⟨links, hresting, hquiet, ht⟩ := settleEvent_start lines u hl
    rw [ht]
    refine ⟨?_, hjournal, fun he l => congrArg (fun v : Vector Link 4 => v.get l) (hquiet he)⟩
    refine ⟨rfl, rfl, rfl, rfl, rfl, rfl, hstrap, rfl, rfl, rfl, hlast, hestop, fun h => ?_, fun h => ?_, fun i hi hc => ?_,
      fun hc => ?_, archAt_startedBlocks lines u, fun l => ?_⟩
    · rw [h]
      exact ⟨rfl, rfl, rfl⟩
    · rw [h]
      exact ⟨rfl, rfl⟩
    · rw [← hu] at hi ⊢
      exact loadImage_of_passing lines hi hc
    · rw [← hu] at hc ⊢
      exact loadImage_of_failing lines hc
    · exact hresting l
  refine ⟨fun hp => ?_, fun hp => ?_, fun hp => ?_⟩
  · have hcleared : (loseSupply verified s).links = Vector.replicate 4 restingLink := rfl
    obtain ⟨hs, hjournal, hlinks⟩ := hstarted (loseSupply verified s) himage (resting_of_cleared hcleared)
    refine ⟨_, by rw [exec_powerOnReset, powerOn_of_powered lines verified hp], hs, hjournal, fun he l => ?_⟩
    rw [hlinks he l, linkAt_of_cleared hcleared]
    exact ⟨rfl, rfl⟩
  · obtain ⟨hresting, hmedium, hrecorded⟩ := recordInFlight_spec verified s
    obtain ⟨hs, hjournal, -⟩ := hstarted (recordInFlight verified s) (hmedium.trans himage) hresting
    exact ⟨_, event_powered (resetLine lines verified) s hp, hs, hjournal.trans hrecorded⟩
  · intro lost
    have hlost : loseSupply verified s = lost := by rw [loseSupply, himage]
    refine ⟨?_, fun again => ?_⟩
    · refine (event_powered (loseSupply verified) s hp).trans ?_
      rw [settleEvent_loseSupply, hlost]
    · rw [exec_powerOnReset, exec_powerOnReset, powerOn_of_powered lines verified hp, hlost]
      rfl

end Sys2Proof.Machine
end

section
/-! The requests that set the site (R17, R29, R30, R177, R179, R186): their tests as the rules word them, and what each writes. -/

namespace Sys2Proof.Machine

/-! ## Tests and answers -/

@[simp] theorem within_iff (a b n : Nat) : within a b n = true ↔ a ≤ n ∧ n ≤ b := by simp [within]

@[simp] theorem within_eq_false_iff (a b n : Nat) : within a b n = false ↔ n < a ∨ b < n := by
  rw [← Bool.not_eq_true, within_iff]
  omega

variable {l : Fin 4} {s : State}

/-- A request that its owner refuses leaves the part as it was (R174). -/
theorem request_refused {i : Instr} {run : State → State × Reply} {st : Status} (h : Ready l s) (he : run s = (s, refuse st)) :
    Refused l (requestFrame i).kind s (request l i run s) st :=
  have ⟨⟨_, hraised, _⟩, _⟩ := h
  request_answered l i run s s (refuse st) h he hraised

/-- A request that its owner takes is answered OK. -/
theorem request_taken {i : Instr} {run : State → State × Reply} {t : State} {body : List Byte} (h : Ready l s)
    (he : run s = (t, { status := .ok, body := body })) (ht : t.raised = s.raised) :
    Answered l (requestFrame i).kind s (request l i run s) .ok body t :=
  have ⟨⟨_, hraised, _⟩, _⟩ := h
  request_answered l i run s t { status := .ok, body := body } h he (ht.trans hraised)

/-! ## SET_GAUGE (R17) -/

theorem gaugeOf_eq_none {n : Nat} (h : n = 0 ∨ 3 < n) : gaugeOf n = none := by
  match n with
  | 0 => rfl
  | 1 => omega
  | 2 => omega
  | 3 => omega
  | _ + 4 => rfl

theorem gaugeOf_succ : ∀ g : Fin 3, gaugeOf (g.val + 1) = some g := by decide

theorem get_store {α : Type} {n : Nat} (v : Vector α n) (i : Nat) (x : α) (j : Fin n) :
    (store v i x).get j = if j.val = i then x else v.get j := by
  unfold store
  split
  next hi =>
    by_cases hj : j.val = i
    · subst hj
      simp [get_set_same]
    · rw [if_neg hj]
      exact get_set_other v ⟨i, hi⟩ j x fun e => hj (congrArg Fin.val e)
  next hi => rw [if_neg (fun hj : j.val = i => hi (hj ▸ j.isLt))]

/-- The entries of the block take its values in order, and the others keep theirs (R17). -/
theorem get_writeBlock (table : Vector Nat 256) (first : Nat) (values : List Nat) (c : Fin 256) :
    (writeBlock table first values).get c
      = if first ≤ c.val ∧ c.val < first + values.length then values.getD (c.val - first) 0 else table.get c := by
  induction values generalizing table first with
  | nil => simp [writeBlock]
  | cons v rest ih =>
    rw [writeBlock, ih, get_store, List.length_cons]
    rcases Nat.lt_trichotomy c.val first with hlt | heq | hgt
    · rw [if_neg (by omega), if_neg (by omega), if_neg (by omega)]
    · rw [if_neg (by omega), if_pos heq, if_pos (by omega), heq, Nat.sub_self, List.getD_cons_zero]
    · have hsub : c.val - first = c.val - (first + 1) + 1 := by omega
      rw [if_neg (Nat.ne_of_gt hgt), hsub, List.getD_cons_succ]
      exact if_congr (by omega) rfl rfl

theorem gaugeBlock_invalid_iff (first : Nat) (values : List Nat) :
    (!within 1 64 values.length || decide (256 < first + values.length) || values.any fun v => decide (widest < v)) = true ↔
      values.length < 1 ∨ 64 < values.length ∨ 256 < first + values.length ∨ ∃ v ∈ values, 4095 < v := by
  simp only [Bool.or_eq_true, Bool.not_eq_true', within_eq_false_iff, decide_eq_true_eq, List.any_eq_true, or_assoc]
  exact Iff.rfl

theorem setGaugeTests_eq (l : Fin 4) (gauge first : Nat) (values : List Nat) (s : State) :
    setGaugeTests l gauge first values s =
      if permitted l .configure s = false then some .denied
      else if gaugeOf gauge = none then some .unknown
      else if s.supervisor.tunnel ≠ .closed then some .state
      else if values.length < 1 ∨ 64 < values.length ∨ 256 < first + values.length ∨ ∃ v ∈ values, 4095 < v then some .invalid
      else none := by
  simp only [setGaugeTests, firstFailed, gaugeBlock_invalid_iff, Bool.not_eq_true', Option.isNone_iff_eq_none, bne_iff_ne]

theorem setGaugeRequest_of_failed {gauge first : Nat} {values : List Nat} {st : Status}
    (h : setGaugeTests l gauge first values s = some st) : setGaugeRequest l gauge first values s = (s, refuse st) := by
  rw [setGaugeRequest, h]

theorem setGaugeRequest_of_passed {gauge first : Nat} {values : List Nat} {g : Fin 3} (h : setGaugeTests l gauge first values s = none)
    (hg : gaugeOf gauge = some g) : setGaugeRequest l gauge first values s = (setGauge g first values s, { status := .ok }) := by
  rw [setGaugeRequest, h, hg]

/-! ## SET_SITE (R186) -/

theorem mem_allLanes : ∀ m : Fin 3, m ∈ allLanes := by decide

theorem limitsBelow_iff (p : Site) (s : State) : limitsBelow p s = true ↔ ∃ m : Fin 3, p.stackLimits.get m < laneCount m s := by
  simp [limitsBelow, mem_allLanes]

theorem setSiteTests_eq (l : Fin 4) (p : Site) (s : State) :
    setSiteTests l p s =
      if permitted l .configure s = false then some .denied
      else if s.supervisor.tunnel ≠ .closed then some .state
      else if siteOk p = false ∨ ∃ m : Fin 3, p.stackLimits.get m < laneCount m s then some .invalid
      else none := by
  simp [setSiteTests, firstFailed, ← limitsBelow_iff]

theorem all_toList_iff {α : Type} {n : Nat} (v : Vector α n) (p : α → Bool) :
    v.toList.all p = true ↔ ∀ k : Fin n, p (v.get k) = true := by
  simp [Vector.get_eq_getElem, Fin.forall_iff]

theorem speedOf_succ (p : Site) (k : Fin 4) : speedOf p (k.val + 1) = p.speeds.get k := by
  simp [speedOf, Vector.get_eq_getElem]

theorem siteOk_iff (p : Site) : siteOk p = true ↔
    150 ≤ p.gaugeOffset ∧ p.gaugeOffset ≤ 1000 ∧ p.gaugeOffset + 100 ≤ p.exitOffset ∧ p.exitOffset ≤ 6000 ∧
    10 ≤ p.exitTolerance ∧ p.exitTolerance ≤ 100 ∧ 100 ≤ p.gap ∧ p.gap ≤ 1000 ∧ p.rollback ≤ 32 ∧
    (∀ k : Fin 4, 4 ≤ p.speeds.get k ∧ p.speeds.get k ≤ 40) ∧ p.speeds.get 0 < p.speeds.get 1 ∧ p.speeds.get 1 < p.speeds.get 2 ∧
    p.speeds.get 2 < p.speeds.get 3 ∧ 1 ≤ p.cap ∧ p.cap ≤ 4 ∧ 100 ≤ p.presence ∧ p.presence ≤ 1000 ∧ 15 ≤ p.quoteHold ∧
    p.quoteHold ≤ 300 ∧ 5 ≤ p.callTimeout ∧ p.callTimeout ≤ 60 ∧ 2 ≤ p.returnTimeout ∧ p.returnTimeout ≤ 30 ∧ 1 ≤ p.stallTime ∧
    p.stallTime ≤ 10 ∧ (∀ l : Fin 3, 1 ≤ p.stackLimits.get l ∧ p.stackLimits.get l ≤ 16) ∧ ∀ n ∈ p.fallback, n ≤ 23 := by
  unfold siteOk
  have hfirst : speedOf p 1 = p.speeds.get 0 := speedOf_succ p 0
  have hsecond : speedOf p 2 = p.speeds.get 1 := speedOf_succ p 1
  have hthird : speedOf p 3 = p.speeds.get 2 := speedOf_succ p 2
  have hfourth : speedOf p 4 = p.speeds.get 3 := speedOf_succ p 3
  simp only [Bool.and_eq_true, within_iff, decide_eq_true_eq, all_toList_iff, Nat.zero_le, true_and, and_assoc, hfirst, hsecond,
    hthird, hfourth]
  cases p.fallback with
  | none => simp
  | some n => simp

theorem setSiteRequest_of_failed {p : Site} {st : Status} (h : setSiteTests l p s = some st) :
    setSiteRequest l p s = (s, refuse st) := by
  rw [setSiteRequest, h]

theorem setSiteRequest_of_passed {p : Site} (h : setSiteTests l p s = none) :
    setSiteRequest l p s = (setSite p s, { status := .ok }) := by
  rw [setSiteRequest, h]

/-! ## SET_ACCESS and SUBSCRIBE (R177, R179) -/

theorem linkOf_eq_none {n : Nat} (h : 4 ≤ n) : linkOf n = none := dif_neg (not_lt.mpr h)

theorem linkOf_val (m : Fin 4) : linkOf m.val = some m := dif_pos m.isLt

theorem mem_allLinks : ∀ l : Fin 4, l ∈ allLinks := by decide

theorem someConfigure_iff (table : Vector Access 4) :
    someConfigure table = true ↔ ∃ k : Fin 4, inSet (table.get k).permissions 3 = true := by
  simp [someConfigure, mem_allLinks, permissionBit]

theorem accessOk_eq_false_iff (e : Access) :
    accessOk e = false ↔ (∃ n ∈ e.lane, n < 1 ∨ 3 < n) ∨ subset e.sell 0x0F = false ∨ subset e.edit 0x0F = false ∨
      subset e.permissions 0x0F = false := by
  unfold accessOk
  cases e.lane with
  | none => simp [Bool.and_eq_false_iff, or_assoc, -Bool.and_eq_false_imp]
  | some n => simp [Bool.and_eq_false_iff, or_assoc, -Bool.and_eq_false_imp]

theorem setAccessTests_eq (l : Fin 4) (target : Nat) (e : Access) (s : State) :
    setAccessTests l target e s =
      if permitted l .configure s = false then some .denied
      else if linkOf target = none then some .unknown
      else if accessOk e = false ∨ ∃ m ∈ linkOf target,
          ¬ ∃ k : Fin 4, inSet ((modifyAt s.settings.access m fun _ => e).get k).permissions 3 = true then some .invalid
      else none := by
  simp only [setAccessTests, firstFailed, ← someConfigure_iff, Bool.not_eq_true', Option.isNone_iff_eq_none, Bool.or_eq_true,
    Option.any_eq_true, Bool.not_eq_true, Option.mem_def]

theorem setAccessRequest_of_failed {target : Nat} {e : Access} {st : Status} (h : setAccessTests l target e s = some st) :
    setAccessRequest l target e s = (s, refuse st) := by
  rw [setAccessRequest, h]

theorem setAccessRequest_of_passed {m : Fin 4} {e : Access} (h : setAccessTests l m.val e s = none) :
    setAccessRequest l m.val e s = (setAccess m e s, { status := .ok }) := by
  rw [setAccessRequest, h, linkOf_val]

/-! ## The statement -/

/-- Settles O45: each request's tests as the rules word them, and what it writes where they pass. -/
theorem siteSettingsAreWritten : Obligations.SiteSettingsAreWritten := by
  refine ⟨siteOk_iff, fun l s h => ⟨fun gauge first values => ?_, fun site => ?_, fun target entry => ?_, fun set => ?_⟩⟩
  · have refused {st : Status} (ht : setGaugeTests l gauge first values s = some st) :
        Refused l 0x39 s (exec (.setGauge l gauge first values) s) st :=
      request_refused (i := .setGauge l gauge first values) h (setGaugeRequest_of_failed ht)
    refine ⟨fun hp => refused ?_, fun hp => ⟨fun hg => refused ?_, ?_⟩⟩
    · rw [setGaugeTests_eq, if_pos hp]
    · simp [setGaugeTests_eq, hp, gaugeOf_eq_none hg]
    · rintro g rfl bad
      have hg := gaugeOf_succ g
      refine ⟨fun hs => refused ?_, fun hs hbad => refused ?_, fun hs hok => ?_⟩
      · simp [setGaugeTests_eq, hp, hg, hs]
      · rw [setGaugeTests_eq, if_neg (by simp [hp]), if_neg (by simp [hg]), if_neg (not_not.mpr hs), if_pos hbad]
      · have ht : setGaugeTests l (g.val + 1) first values s = none := by
          rw [setGaugeTests_eq, if_neg (by simp [hp]), if_neg (by simp [hg]), if_neg (not_not.mpr hs), if_neg hok]
        refine ⟨setGauge g first values s,
          request_taken (i := .setGauge l (g.val + 1) first values) h (setGaugeRequest_of_passed ht hg) rfl, rfl, fun c => ?_,
          fun k hk => get_modifyAt_other _ _ _ _ hk⟩
        rw [← get_writeBlock]
        exact congrArg (fun t : Vector Nat 256 => t.get c) (get_modifyAt_same s.settings.gauges g _)
  · have refused {st : Status} (ht : setSiteTests l site s = some st) : Refused l 0x3A s (exec (.setSite l site) s) st :=
      request_refused (i := .setSite l site) h (setSiteRequest_of_failed ht)
    refine ⟨fun hp => refused ?_, fun hp => ⟨fun hs => refused ?_, fun hs hbad => refused ?_, fun hs hok => ?_⟩⟩
    · rw [setSiteTests_eq, if_pos hp]
    · simp [setSiteTests_eq, hp, hs]
    · rw [setSiteTests_eq, if_neg (by simp [hp]), if_neg (not_not.mpr hs), if_pos hbad]
    · have ht : setSiteTests l site s = none := by
        rw [setSiteTests_eq, if_neg (by simp [hp]), if_neg (not_not.mpr hs), if_neg hok]
      exact request_taken (i := .setSite l site) h (setSiteRequest_of_passed ht) rfl
  · have refused {st : Status} (ht : setAccessTests l target entry s = some st) :
        Refused l 0x3C s (exec (.setAccess l target entry) s) st :=
      request_refused (i := .setAccess l target entry) h (setAccessRequest_of_failed ht)
    refine ⟨fun hp => refused ?_, fun hp => ⟨fun hm => refused ?_, ?_⟩⟩
    · rw [setAccessTests_eq, if_pos hp]
    · simp [setAccessTests_eq, hp, linkOf_eq_none hm]
    · rintro m rfl table bad
      have hinvalid : (accessOk entry = false ∨ ∃ t ∈ linkOf m.val,
          ¬ ∃ k : Fin 4, inSet ((modifyAt s.settings.access t fun _ => entry).get k).permissions 3 = true) ↔ bad := by
        simp [accessOk_eq_false_iff, linkOf_val, bad, table, or_assoc]
      have hm : linkOf m.val ≠ none := by simp [linkOf_val]
      refine ⟨fun hbad => refused ?_, fun hok => ?_⟩
      · rw [setAccessTests_eq, if_neg (by simp [hp]), if_neg hm, if_pos (hinvalid.mpr hbad)]
      · have ht : setAccessTests l m.val entry s = none := by
          rw [setAccessTests_eq, if_neg (by simp [hp]), if_neg hm, if_neg (mt hinvalid.mp hok)]
        exact request_taken (i := .setAccess l m.val entry) h (setAccessRequest_of_passed ht) rfl
  · exact request_taken (i := .subscribe l set) h (run := subscribeRequest l set) rfl rfl

end Sys2Proof.Machine
end

section
/-! SET_TEST_PROFILE (R29, R30): the tests of a piece as the rules word them, and the record or the profile that a piece leaves. -/

namespace Sys2Proof.Machine

variable {l : Fin 4} {k : Fin 2} {profile n first : Nat} {samples : List Sample} {s : State}

/-! ## The tests of a piece -/

theorem profileOf_eq_none (h : 2 ≤ profile) : profileOf profile = none := dif_neg (not_lt.mpr h)

theorem profileOf_val (k : Fin 2) : profileOf k.val = some k := dif_pos k.isLt

theorem piecesTooWide_iff (samples : List Sample) :
    piecesTooWide samples = true ↔ ∃ x ∈ samples, 4095 < x.top ∨ 4095 < x.left ∨ 4095 < x.right := by
  simp only [piecesTooWide, List.any_eq_true, Bool.or_eq_true, decide_eq_true_eq, or_assoc]
  exact Iff.rfl

theorem startPieceInvalid_iff (n : Nat) (samples : List Sample) :
    startPieceInvalid n samples = true ↔ n < 2 ∨ 96 < n ∨ samples.length < 1 ∨ 16 < samples.length ∨ n < samples.length ∨
      ∃ x ∈ samples, 4095 < x.top ∨ 4095 < x.left ∨ 4095 < x.right := by
  simp only [startPieceInvalid, Bool.or_eq_true, Bool.not_eq_true', within_eq_false_iff, decide_eq_true_eq, piecesTooWide_iff,
    or_assoc]

theorem continuationTests_eq (l : Fin 4) (g : Staging) (n first : Nat) (samples : List Sample) :
    continuationTests l (some g) n first samples =
      if g.link ≠ l then some .busy
      else if n ≠ g.length ∨ first ≠ g.next ∨ samples.length < 1 ∨ 16 < samples.length ∨ n < first + samples.length ∨
          ∃ x ∈ samples, 4095 < x.top ∨ 4095 < x.left ∨ 4095 < x.right then some .invalid
      else none := by
  simp only [continuationTests, firstFailed, Bool.or_eq_true, Bool.not_eq_true', within_eq_false_iff, decide_eq_true_eq,
    piecesTooWide_iff, bne_iff_ne, or_assoc]

/-- CONFIGURE is tested first (R174). -/
theorem setTestProfileTests_of_denied (hp : permitted l .configure s = false) :
    setTestProfileTests l profile n first samples s = some .denied := by
  simp [setTestProfileTests, hp]

theorem setTestProfileTests_of_unknown (hp : permitted l .configure s = true) (h : 2 ≤ profile) :
    setTestProfileTests l profile n first samples s = some .unknown := by
  simp [setTestProfileTests, hp, profileOf_eq_none h]

/-- A start piece is judged by itself, whatever its record holds (R29). -/
theorem setTestProfileTests_start (hp : permitted l .configure s = true) (k : Fin 2) :
    setTestProfileTests l k.val n 0 samples s = if startPieceInvalid n samples = true then some .invalid else none := by
  simp [setTestProfileTests, hp, profileOf_val, firstFailed]

/-- A continuation is judged by the record it continues (R30). -/
theorem setTestProfileTests_continuation (hp : permitted l .configure s = true) (k : Fin 2) (hfirst : 0 < first) :
    setTestProfileTests l k.val n first samples s = continuationTests l (s.station.staging.get k) n first samples := by
  simp [setTestProfileTests, hp, profileOf_val, Nat.ne_of_gt hfirst]

/-! ## A piece taken or refused -/

theorem stagedSamples_start (k : Fin 2) (samples : List Sample) (s : State) : stagedSamples k 0 samples s = samples := rfl

theorem stagedSamples_continuation {g : Staging} (hfirst : 0 < first) (hg : s.station.staging.get k = some g) :
    stagedSamples k first samples s = g.samples ++ samples := by
  rw [stagedSamples, if_neg (Nat.ne_of_gt hfirst), hg]
  rfl

theorem takePiece_raised (l : Fin 4) (k : Fin 2) (n first : Nat) (samples : List Sample) (s : State) :
    (takePiece l k n first samples s).raised = s.raised := by
  unfold takePiece
  dsimp only
  split <;> rfl

theorem setTestProfile_refused {st : Status} (h : Ready l s) (ht : setTestProfileTests l profile n first samples s = some st) :
    Refused l 0x3B s (exec (.setTestProfile l profile n first samples) s) st :=
  request_refused (i := .setTestProfile l profile n first samples) h
    (run := setTestProfileRequest l profile n first samples) (by rw [setTestProfileRequest, ht])

/-- A piece that passes its tests is answered with the samples held so far (R29, R30). -/
theorem setTestProfile_taken (h : Ready l s) (ht : setTestProfileTests l k.val n first samples s = none) :
    Answered l 0x3B s (exec (.setTestProfile l k.val n first samples) s) .ok (put8 (first + samples.length))
      (takePiece l k n first samples s) :=
  request_taken (i := .setTestProfile l k.val n first samples) h
    (run := setTestProfileRequest l k.val n first samples) (by rw [setTestProfileRequest, ht, profileOf_val])
    (takePiece_raised l k n first samples s)

/-! ## The statement -/

/-- Settles O46: a start piece is judged by itself, a continuation by its record, and a piece taken extends or commits it. -/
theorem testProfilesAreStagedAndCommitted : Obligations.TestProfilesAreStagedAndCommitted := by
  intro l profile n first samples s h o c wide
  refine ⟨fun hp => setTestProfile_refused h (setTestProfileTests_of_denied hp), fun hp =>
    ⟨fun hk => setTestProfile_refused h (setTestProfileTests_of_unknown hp hk), ?_⟩⟩
  rintro k rfl taken badStart
  have answered {held : List Sample} (hheld : stagedSamples k first samples s = held)
      (ht : setTestProfileTests l k.val n first samples s = none) : taken held := by
    subst hheld
    exact setTestProfile_taken h ht
  refine ⟨?_, ?_, fun hfirst hnone => setTestProfile_refused h ?_, ?_⟩
  · rintro rfl hbad
    exact setTestProfile_refused h ((setTestProfileTests_start hp k).trans (if_pos ((startPieceInvalid_iff n samples).mpr hbad)))
  · rintro rfl hok
    exact answered (stagedSamples_start k samples s)
      ((setTestProfileTests_start hp k).trans (if_neg (mt (startPieceInvalid_iff n samples).mp hok)))
  · rw [setTestProfileTests_continuation hp k hfirst, hnone, continuationTests]
  · intro hfirst g hg badMore
    have htests : setTestProfileTests l k.val n first samples s =
        if g.link ≠ l then some .busy else if badMore then some .invalid else none := by
      rw [setTestProfileTests_continuation hp k hfirst, hg, continuationTests_eq]
    refine ⟨fun hl => setTestProfile_refused h (htests.trans (if_pos hl)), fun hl hbad => setTestProfile_refused h ?_,
      fun hl hok => answered (stagedSamples_continuation hfirst hg) ?_⟩
    · rw [htests, if_neg (not_not.mpr hl), if_pos hbad]
    · rw [htests, if_neg (not_not.mpr hl), if_neg hok]

end Sys2Proof.Machine
end

section
/-! The station on a forward pitch (R20 to R28): what classes and event lists do with a sample leaves the car's measure alone, so
what the station writes into the car stands when the pitch has been handled. -/

namespace Sys2Proof.Machine

/-! ## What a search and a sampling write -/

/-- What the station measures of a car is the same in two records, and so are the car's number and its arch statuses. -/
structure Car.SameMeasure (c u : Car) : Prop where
  number : u.number = c.number
  origin : u.origin = c.origin
  profile : u.profile = c.profile
  samples : u.samples = c.samples
  statuses : u.statuses = c.statuses

theorem Car.SameMeasure.refl (c : Car) : c.SameMeasure c := ⟨rfl, rfl, rfl, rfl, rfl⟩

theorem Car.SameMeasure.trans {c u w : Car} (h : c.SameMeasure u) (k : u.SameMeasure w) : c.SameMeasure w :=
  ⟨k.number.trans h.number, k.origin.trans h.origin, k.profile.trans h.profile, k.samples.trans h.samples,
    k.statuses.trans h.statuses⟩

/-- A change of the part that leaves the station, the settings and the measure of every car alone. -/
structure MeasuresKept (s t : State) : Prop where
  station : t.station = s.station
  settings : t.settings = s.settings
  table : ∃ f : Car → Car, (∀ c : Car, c.SameMeasure (f c)) ∧ t.entry.table = s.entry.table.map f

variable {s t u : State} {n : Nat} {c : Car}

theorem MeasuresKept.of_table (hstation : t.station = s.station) (hsettings : t.settings = s.settings)
    (htable : t.entry.table = s.entry.table) : MeasuresKept s t :=
  ⟨hstation, hsettings, id, Car.SameMeasure.refl, by rw [htable, List.map_id]⟩

theorem MeasuresKept.refl (s : State) : MeasuresKept s s := .of_table rfl rfl rfl

theorem MeasuresKept.trans (h : MeasuresKept s t) (k : MeasuresKept t u) : MeasuresKept s u := by
  obtain ⟨f, hf, hft⟩ := h.table
  obtain ⟨g, hg, hgt⟩ := k.table
  exact ⟨k.station.trans h.station, k.settings.trans h.settings, g ∘ f, fun c => (hf c).trans (hg (f c)),
    by rw [hgt, hft, List.map_map]⟩

theorem MeasuresKept.foldl {α : Type} (f : State → α → State) (h : ∀ s a, MeasuresKept s (f s a)) (l : List α) (s : State) :
    MeasuresKept s (l.foldl f s) :=
  List.foldlRecOn (motive := MeasuresKept s) l f (.refl s) fun t ht a _ => ht.trans (h t a)

/-- The car is found again, its measure as it was. -/
theorem MeasuresKept.found (h : MeasuresKept s t) (hc : findCar n s = some c) :
    ∃ u, findCar n t = some u ∧ c.SameMeasure u := by
  obtain ⟨f, hf, htable⟩ := h.table
  exact ⟨f c, by rw [findCar_mapTable n f (fun c => (hf c).number) s t htable, hc, Option.map_some], hf c⟩

theorem findCar_congr (h : t.entry.table = s.entry.table) (n : Nat) : findCar n t = findCar n s := by
  rw [findCar, h, findCar]

theorem found_modifyCar (f : Car → Car) (hf : ∀ c, (f c).number = c.number) (hc : findCar n s = some c) :
    findCar n (modifyCar n f s) = some (f c) := by
  rw [findCar_modifyCar n f hf, hc, Option.map_some]

/-! ## What leaves the measures alone -/

theorem modifyCar_measuresKept (n : Nat) (f : Car → Car) (hf : ∀ c : Car, c.SameMeasure (f c)) (s : State) :
    MeasuresKept s (modifyCar n f s) := by
  refine ⟨rfl, rfl, _, fun c => ?_, rfl⟩
  split
  · exact hf c
  · exact .refl c

theorem addTag_sameMeasure (t : Tag) (c : Car) : c.SameMeasure (c.addTag t) := by
  unfold Car.addTag
  split
  · exact .refl c
  · split <;> exact ⟨rfl, rfl, rfl, rfl, rfl⟩

theorem holdTag_sameMeasure (c : Car) : c.SameMeasure c.holdTag := by
  unfold Car.holdTag
  split
  · exact .refl c
  · exact (addTag_sameMeasure .gaugeHold c).trans ⟨rfl, rfl, rfl, rfl, rfl⟩

theorem apply_sameMeasure (k : Nat) (c : Car) : c.SameMeasure (c.apply k) := by
  unfold Car.apply
  split <;> exact ⟨rfl, rfl, rfl, rfl, rfl⟩

theorem tagCar_measuresKept (n : Nat) (t : Tag) (s : State) : MeasuresKept s (tagCar n t s) :=
  modifyCar_measuresKept n _ (addTag_sameMeasure t) s

/-- The tag GAUGE_HOLD of a replaced reading (R21, R23). -/
theorem holdTag_measuresKept (n : Nat) (replaced : Bool) (s : State) :
    MeasuresKept s (if replaced then modifyCar n Car.holdTag s else s) := by
  split
  · exact modifyCar_measuresKept n _ holdTag_sameMeasure s
  · exact .refl s

theorem recomputeClass_measuresKept (s : State) : MeasuresKept s (recomputeClass s) :=
  ⟨rfl, rfl, _, apply_sameMeasure _, rfl⟩

/-- A change of one record that leaves its measure alone, and the class of the conveyor recomputed. -/
theorem modifyCar_recomputeClass_measuresKept (n : Nat) (f : Car → Car) (hf : ∀ c : Car, c.SameMeasure (f c)) (s : State) :
    MeasuresKept s (recomputeClass (modifyCar n f s)) :=
  (modifyCar_measuresKept n f hf s).trans (recomputeClass_measuresKept _)

theorem setClass_measuresKept (n k : Nat) (s : State) : MeasuresKept s (setClass n k s) := by
  unfold setClass
  split
  · exact .refl s
  · split
    · exact .refl s
    · refine modifyCar_recomputeClass_measuresKept n _ ?_ s
      exact fun _ => ⟨rfl, rfl, rfl, rfl, rfl⟩

theorem computeClass_measuresKept (n : Nat) (s : State) : MeasuresKept s (computeClass n s) := by
  unfold computeClass
  split
  · exact .refl s
  · split
    · exact setClass_measuresKept n _ s
    · exact (tagCar_measuresKept n .steep s).trans (setClass_measuresKept n _ _)

theorem paceSample_measuresKept (n : Nat) (s : State) : MeasuresKept s (paceSample n s) := by
  unfold paceSample
  split
  · exact .refl s
  · split
    · exact computeClass_measuresKept n s
    · refine .trans (modifyCar_measuresKept n _ ?_ s) (computeClass_measuresKept n _)
      exact fun _ => ⟨rfl, rfl, rfl, rfl, rfl⟩

theorem joinDomain_measuresKept (n : Nat) (s : State) : MeasuresKept s (joinDomain n s) := by
  unfold joinDomain
  split
  · exact .refl s
  · split
    · exact .refl s
    · refine modifyCar_recomputeClass_measuresKept n _ ?_ s
      exact fun _ => ⟨rfl, rfl, rfl, rfl, rfl⟩

theorem insertEngages_measuresKept (n : Nat) (s : State) : MeasuresKept s (insertEngages n s) := by
  unfold insertEngages
  split
  · exact .refl s
  · split
    · exact .refl s
    · refine .foldl _ (fun t a => ?_) _ s
      exact .of_table rfl rfl rfl

theorem insertReleases_entry (n : Nat) (s : State) : (insertReleases n s).entry = s.entry := by
  unfold insertReleases
  split
  · rfl
  · split
    · rfl
    · exact List.foldlRecOn (motive := fun t : State => t.entry = s.entry) _ _ rfl fun _ ht _ _ => ht

/-! ## The class of an overlong car (R26) -/

theorem cls_apply (k : Nat) (c : Car) : (c.apply k).cls = c.cls := by
  unfold Car.apply
  split <;> rfl

theorem findCar_recomputeClass (n : Nat) (s : State) :
    findCar n (recomputeClass s) = (findCar n s).map (Car.apply (conveyorClass s)) :=
  findCar_mapTable n _ (fun c => (apply_sameMeasure _ c).number) s _ rfl

theorem found_setClass (k : Nat) (hc : findCar n s = some c) : ∃ u, findCar n (setClass n k s) = some u ∧ u.cls = k := by
  by_cases hk : k = c.cls
  · have hset : setClass n k s = s := by
      rw [setClass, hc]
      exact if_pos hk
    exact ⟨c, hset.symm ▸ hc, hk.symm⟩
  · have hset : setClass n k s = recomputeClass (modifyCar n (fun c => { c with cls := k }) s) := by
      rw [setClass, hc]
      exact if_neg hk
    have hmodified := found_modifyCar (fun c => { c with cls := k }) (fun _ => rfl) hc
    exact ⟨_, by rw [hset, findCar_recomputeClass, hmodified, Option.map_some], cls_apply _ _⟩

/-! ## The end of a profile (R25 to R28) -/

/-- A final profile keeps its samples and its class, and the station is idle. -/
theorem found_finishProfile (final : ProfileState) (hc : findCar n s = some c) :
    (finishProfile n final s).station.watch = .idle ∧
      ∃ u, findCar n (finishProfile n final s) = some u ∧ u.profile = final ∧ u.samples = c.samples ∧ u.cls = c.cls := by
  refine ⟨rfl, _, (findCar_congr (congrArg (·.table) (insertReleases_entry n _)) n).trans (found_modifyCar _ ?_ hc),
    rfl, rfl, rfl⟩
  exact fun _ => rfl

theorem found_dropTrailing (hc : findCar n s = some c) :
    findCar n (dropTrailing n s) = some { c with samples := c.samples.dropLast } :=
  found_modifyCar _ (fun _ => rfl) hc

/-! ## A sample (R23, R24) -/

theorem found_appendSample (x : Sample) (hc : findCar n s = some c) :
    ∃ u, findCar n (appendSample n x s) = some u ∧ u.samples = c.samples ++ [x] ∧ u.profile = c.profile := by
  obtain ⟨u, hu, hsame⟩ := (paceSample_measuresKept n _).found
    (found_modifyCar (fun c => { c with samples := c.samples ++ [x] }) (fun _ => rfl) hc)
  exact ⟨u, hu, hsame.samples, hsame.profile⟩

theorem found_tagOverlength (hc : findCar n s = some c) : ∃ u, findCar n (setClass n 1 (tagCar n .overlength s)) = some u ∧
    u.samples = c.samples ∧ u.cls = 1 := by
  obtain ⟨v, hv, -⟩ := (tagCar_measuresKept n .overlength s).found hc
  obtain ⟨u, hu, hcls⟩ := found_setClass 1 hv
  obtain ⟨w, hw, hsame⟩ := ((tagCar_measuresKept n .overlength s).trans (setClass_measuresKept n 1 _)).found hc
  obtain rfl := Option.some.inj (hw.symm.trans hu)
  exact ⟨w, hw, hsame.samples, hcls⟩

section Sample

variable {first : Pos} {next : Nat} {absent : Bool} {x : Sample}

/-- A sample that is read, or a first one that is not, is kept before index 95, and the next one awaited (R24). -/
theorem handleSample_continues (hnext : next < 95) (hx : present x.top s = true ∨ absent = false) (hc : findCar n s = some c) :
    (handleSample n first next absent x s).station.watch = .sampling n first (next + 1) (!present x.top s) x ∧
      ∃ u, findCar n (handleSample n first next absent x s) = some u ∧ u.samples = c.samples ++ [x] ∧ u.profile = c.profile := by
  have hstep : handleSample n first next absent x s
      = watching (.sampling n first (next + 1) (!present x.top s) x) (appendSample n x s) := by
    have hlast : next < lastSample := hnext
    by_cases hread : present x.top s = true
    · rw [handleSample, if_pos hread, if_pos hlast, hread]
      rfl
    · have ha : ¬ absent = true := by simpa [hread] using hx
      rw [handleSample, if_neg hread, if_neg ha, if_pos hlast, Bool.eq_false_iff.mpr hread]
      rfl
  rw [hstep]
  exact ⟨rfl, found_appendSample x hc⟩

/-- The second sample in a row below the threshold ends the profile, and the first is removed (R25). -/
theorem handleSample_completes (hx : ¬ present x.top s = true) (ha : absent = true) (hc : findCar n s = some c) :
    (handleSample n first next absent x s).station.watch = .idle ∧
      ∃ u, findCar n (handleSample n first next absent x s) = some u ∧ u.profile = .complete ∧
        u.samples = c.samples.dropLast := by
  have hstep : handleSample n first next absent x s = finishProfile n .complete (dropTrailing n s) := by
    rw [handleSample, if_neg hx, if_pos ha]
  obtain ⟨hwatch, u, hu, hprofile, hsamples, -⟩ := found_finishProfile .complete (found_dropTrailing hc)
  rw [hstep]
  exact ⟨hwatch, u, hu, hprofile, hsamples⟩

/-- Sample 95 below the threshold is not kept (R25). -/
theorem handleSample_completes_at_last (hnext : 95 ≤ next) (hx : ¬ present x.top s = true) (ha : absent = false)
    (hc : findCar n s = some c) :
    (handleSample n first next absent x s).station.watch = .idle ∧
      ∃ u, findCar n (handleSample n first next absent x s) = some u ∧ u.profile = .complete ∧ u.samples = c.samples := by
  have hlast : ¬ next < lastSample := Nat.not_lt.mpr hnext
  have hstep : handleSample n first next absent x s = finishProfile n .complete s := by
    rw [handleSample, if_neg hx, if_neg (by simp [ha]), if_neg hlast]
  obtain ⟨hwatch, u, hu, hprofile, hsamples, -⟩ := found_finishProfile .complete hc
  rw [hstep]
  exact ⟨hwatch, u, hu, hprofile, hsamples⟩

/-- Sample 95 that is still read truncates the profile and sets the car to class 1 (R26). -/
theorem handleSample_truncates (hnext : 95 ≤ next) (hx : present x.top s = true) (hc : findCar n s = some c) :
    (handleSample n first next absent x s).station.watch = .idle ∧
      ∃ u, findCar n (handleSample n first next absent x s) = some u ∧ u.profile = .truncated ∧
        u.samples = c.samples ++ [x] ∧ u.cls = 1 := by
  have hlast : ¬ next < lastSample := Nat.not_lt.mpr hnext
  have hstep : handleSample n first next absent x s
      = finishProfile n .truncated (setClass n 1 (tagCar n .overlength (appendSample n x s))) := by
    rw [handleSample, if_pos hx, if_neg hlast]
  obtain ⟨v, hv, hvsamples, -⟩ := found_appendSample x hc
  obtain ⟨w, hw, hwsamples, hwcls⟩ := found_tagOverlength hv
  obtain ⟨hwatch, u, hu, hprofile, hsamples, hcls⟩ := found_finishProfile .truncated hw
  rw [hstep]
  exact ⟨hwatch, u, hu, hprofile, hsamples.trans (hwsamples.trans hvsamples), hcls.trans hwcls⟩

end Sample

/-! ## The front is found (R21) -/

/-- The record of a car whose front the station has found: its origin, and sample 0 (R21). -/
def Car.withFront (origin : Pos) (x : Sample) (c : Car) : Car :=
  { c with origin := some origin, samples := [x], profile := .measuring }

/-- The front is written into a record in which a replaced reading has been tagged; the class and the domain come after. -/
theorem setOrigin_eq (n : Nat) (p : Pos) (top : Nat) (g : GaugeCodes) (s : State) :
    let x : Sample := ⟨top, (gaugeReading 1 g.left s).getD 4095, (gaugeReading 2 g.right s).getD 4095⟩
    ∃ held, MeasuresKept s held ∧ setOrigin n p top g s = joinDomain n (computeClass n (insertEngages n
      (watching (.sampling n p 1 false x) (modifyCar n (Car.withFront (retreat p s.settings.site.gaugeOffset) x) held)))) :=
  ⟨_, holdTag_measuresKept n ((gaugeReading 1 g.left s).isNone || (gaugeReading 2 g.right s).isNone) s, rfl⟩

theorem found_setOrigin (p : Pos) (top : Nat) (g : GaugeCodes) (hc : findCar n s = some c) :
    let x : Sample := ⟨top, (gaugeReading 1 g.left s).getD 4095, (gaugeReading 2 g.right s).getD 4095⟩
    (setOrigin n p top g s).station.watch = .sampling n p 1 false x ∧
      ∃ u, findCar n (setOrigin n p top g s) = some u ∧
        u.origin = some (p - BitVec.ofNat 16 s.settings.site.gaugeOffset) ∧ u.profile = .measuring ∧ u.samples = [x] := by
  intro x
  obtain ⟨held, hheld, hstep⟩ := setOrigin_eq n p top g s
  have hkept (w : State) : MeasuresKept w (joinDomain n (computeClass n (insertEngages n w))) :=
    ((insertEngages_measuresKept n w).trans (computeClass_measuresKept n _)).trans (joinDomain_measuresKept n _)
  obtain ⟨v, hv, -⟩ := hheld.found hc
  have hfront : findCar n (watching (.sampling n p 1 false x) (modifyCar n (Car.withFront _ x) held)) = _ :=
    found_modifyCar (Car.withFront (retreat p s.settings.site.gaugeOffset) x) (fun _ => rfl) hv
  obtain ⟨u, hu, hsame⟩ := (hkept _).found hfront
  rw [hstep]
  exact ⟨congrArg Station.watch (hkept _).station, u, hu, hsame.origin, hsame.profile, hsame.samples⟩

/-! ## The front is not found (R22) -/

theorem mem_countedArches (s : State) (c : Car) (a : Fin 12) :
    a ∈ countedArches s c ↔ followingArch a s = true ∧ (c.statuses.get a).isSome = true := by
  simp [countedArches, mem_allArches]

/-- The statuses for the listed arches become SKIPPED, the others stand, and so do profile and origin. -/
theorem found_skipAll (l : List (Fin 12)) (hc : findCar n s = some c) :
    ∃ u, findCar n (l.foldl (fun t a => setStatus n a .skipped t) s) = some u ∧ u.profile = c.profile ∧ u.origin = c.origin ∧
      ∀ a, u.statuses.get a = if a ∈ l then some .skipped else c.statuses.get a := by
  induction l generalizing s c with
  | nil => exact ⟨c, hc, rfl, rfl, fun a => by simp⟩
  | cons b rest ih =>
    have hb : findCar n (setStatus n b .skipped s) = some { c with statuses := c.statuses.set b.val (some .skipped) b.isLt } := by
      rw [findCar_setStatus, hc, Option.map_some]
    obtain ⟨u, hu, hprofile, horigin, hstatuses⟩ := ih hb
    refine ⟨u, hu, hprofile, horigin, fun a => ?_⟩
    rw [hstatuses a]
    by_cases hab : a = b
    · subst hab
      simp [get_set_same]
    · simp [hab, get_set_other _ _ _ _ hab]

theorem found_insertAbsent {o : Pos} (hc : findCar n s = some c) (ho : c.origin = some o) :
    ∃ u, findCar n (insertAbsent n s) = some u ∧ u.profile = c.profile ∧ u.origin = some o ∧
      ∀ a, followingArch a s = true → (c.statuses.get a).isSome → u.statuses.get a = some .skipped := by
  obtain ⟨u, hu, hprofile, horigin, hstatuses⟩ := found_skipAll (countedArches s c) hc
  refine ⟨u, ?_, hprofile, horigin.trans ho, fun a hf hs => ?_⟩
  · rw [← hu]
    refine findCar_congr ?_ n
    simp only [insertAbsent, hc, ho]
    exact List.foldlRecOn (motive := fun t : State => t.entry.table = _) _ _ rfl fun _ ht _ _ => ht
  · rw [hstatuses a, if_pos ((mem_countedArches s c a).mpr ⟨hf, hs⟩)]

/-- The record of a car whose front has not come within the search window (R22). -/
def Car.withoutProfile (c : Car) : Car := { c.addTag .noProfile with profile := .absent, origin := some c.anchor }

theorem found_makeAbsent (hc : findCar n s = some c) :
    (makeAbsent n s).station.watch = .idle ∧
      ∃ u, findCar n (makeAbsent n s) = some u ∧ u.profile = .absent ∧ u.origin = some c.anchor ∧
        ∀ a, followingArch a s = true → (c.statuses.get a).isSome → u.statuses.get a = some .skipped := by
  have hnumber (c : Car) : c.withoutProfile.number = c.number := (addTag_sameMeasure .noProfile c).number
  have hstatuses : c.withoutProfile.statuses = c.statuses := (addTag_sameMeasure .noProfile c).statuses
  obtain ⟨v, hv, hprofile, horigin, hskipped⟩ := found_insertAbsent (found_modifyCar Car.withoutProfile hnumber hc) rfl
  obtain ⟨u, hu, hsame⟩ := (setClass_measuresKept n v.maxClass _).found hv
  have hstep : makeAbsent n s
      = watching .idle (setClass n v.maxClass (insertAbsent n (modifyCar n Car.withoutProfile s))) := by
    have hfind : findCar n (insertAbsent n (modifyCar n
        (fun c => { c.addTag .noProfile with profile := .absent, origin := some c.anchor }) s)) = some v := hv
    simp only [makeAbsent, hfind]
    rfl
  rw [hstep]
  refine ⟨rfl, u, hu, hsame.profile.trans hprofile, hsame.origin.trans horigin, fun a hf hs => ?_⟩
  rw [hsame.statuses]
  exact hskipped a hf (hstatuses ▸ hs)

/-! ## The station's two watches -/

theorem present_iff (mm : Nat) (s : State) : present mm s = true ↔ s.settings.site.presence ≤ mm := decide_eq_true_iff

theorem gaugeReading_zero (gauge : Fin 3) (s : State) : gaugeReading gauge 0 s = none := rfl

theorem gaugeReading_of_ne (gauge : Fin 3) {code : Byte} (h : code ≠ 0) (s : State) :
    gaugeReading gauge code s = some ((s.settings.gauges.get gauge).get ⟨code.toNat, code.isLt⟩) := if_neg h

section Searching

variable (p : Pos) (g : GaugeCodes) (h : s.station.watch = .searching n)
include h

theorem stationPitch_searching : stationPitch p g s = searchPitch n p g s := by
  rw [stationPitch, h]

variable (hc : findCar n s = some c)
include hc

/-- Before the search window the pitch does nothing (R20). -/
theorem stationPitch_before (hbefore : signedDiff p c.anchor < (s.settings.site.gaugeOffset : Int) - 150) :
    stationPitch p g s = s := by
  rw [stationPitch_searching p g h, searchPitch, hc]
  exact if_pos hbefore

/-- Beyond the search window the profile is absent (R22). -/
theorem stationPitch_beyond (hbeyond : (s.settings.site.gaugeOffset : Int) + 16 < signedDiff p c.anchor) :
    stationPitch p g s = makeAbsent n s := by
  have hpast : ¬ signedDiff p c.anchor < (s.settings.site.gaugeOffset : Int) - 150 := by omega
  rw [stationPitch_searching p g h, searchPitch, hc]
  exact (if_neg hpast).trans (if_neg (not_le.mpr hbeyond))

section Window

variable (hfrom : (s.settings.site.gaugeOffset : Int) - 150 ≤ signedDiff p c.anchor)
  (hto : signedDiff p c.anchor ≤ (s.settings.site.gaugeOffset : Int) + 16)
include hfrom hto

/-- Within the search window a top gauge that returns nothing does nothing (R20). -/
theorem stationPitch_no_return (htop : gaugeReading 0 g.top s = none) : stationPitch p g s = s := by
  rw [stationPitch_searching p g h, searchPitch, hc]
  refine (if_neg (not_lt.mpr hfrom)).trans ((if_pos hto).trans ?_)
  rw [htop]

/-- Within the search window a reading takes sample 0 if it is present, and else does nothing (R20, R21). -/
theorem stationPitch_reading {top : Nat} (htop : gaugeReading 0 g.top s = some top) :
    stationPitch p g s = if present top s then setOrigin n p top g s else s := by
  rw [stationPitch_searching p g h, searchPitch, hc]
  refine (if_neg (not_lt.mpr hfrom)).trans ((if_pos hto).trans ?_)
  rw [htop]

end Window

end Searching

section Sampling

variable {first : Pos} {next : Nat} {absent : Bool} {last : Sample} (p : Pos) (g : GaugeCodes)
  (h : s.station.watch = .sampling n first next absent last)
include h

theorem stationPitch_sampling : stationPitch p g s = samplePitchStep n first next absent last p g s := by
  rw [stationPitch, h]

/-- No sample is due before the pitch of the next index (R23). -/
theorem stationPitch_not_due (hdue : ¬ reached p (first + BitVec.ofNat 16 (8 * next)) = true) : stationPitch p g s = s :=
  (stationPitch_sampling p g h).trans (if_neg hdue)

/-- A due sample takes the last value of a gauge that returns nothing, and is handled in a part whose measures are as they were. -/
theorem stationPitch_due (hdue : reached p (first + BitVec.ofNat 16 (8 * next)) = true) :
    ∃ held, MeasuresKept s held ∧ stationPitch p g s = handleSample n first next absent
      ⟨(gaugeReading 0 g.top s).getD last.top, (gaugeReading 1 g.left s).getD last.left,
        (gaugeReading 2 g.right s).getD last.right⟩ held := by
  refine ⟨_, holdTag_measuresKept n ((gaugeReading 0 g.top s).isNone || (gaugeReading 1 g.left s).isNone
    || (gaugeReading 2 g.right s).isNone) s, ?_⟩
  exact (stationPitch_sampling p g h).trans (if_pos hdue)

end Sampling

/-! ## The statement -/

/-- What holds of a car that is found holds of the car under its number. -/
theorem forall_found_of_exists {P : Car → Prop} {x : Option Car} (h : ∃ u, x = some u ∧ P u) : ∀ u, x = some u → P u := by
  obtain ⟨v, hv, hP⟩ := h
  intro u hu
  obtain rfl := Option.some.inj (hv.symm.trans hu)
  exact hP

/-- Settles O59: a search ends in a front or in an absence, and a due sample is kept or ends the profile. -/
theorem stationSearchesAndSamples : Obligations.StationSearchesAndSamples := by
  intro p g n c s hc d offset reads
  refine ⟨fun hwatch => ?_, fun first next absent last hwatch => ?_⟩
  · refine ⟨stationPitch_before p g hwatch hc, fun hfrom hto => ⟨fun hzero => ?_, fun hcode => ?_⟩, fun hbeyond => ?_⟩
    · exact stationPitch_no_return p g hwatch hc hfrom hto (by rw [hzero, gaugeReading_zero])
    · intro top
      have hpitch := stationPitch_reading p g hwatch hc hfrom hto (gaugeReading_of_ne 0 hcode s)
      refine ⟨fun hlow => hpitch.trans (if_neg (mt (present_iff top s).mp hlow)), fun hread u hu => ?_⟩
      rw [if_pos ((present_iff top s).mpr hread)] at hpitch
      obtain ⟨hsampling, hfound⟩ := found_setOrigin p top g hc
      rw [hpitch] at hu ⊢
      obtain ⟨horigin, hprofile, hsamples⟩ := forall_found_of_exists hfound u hu
      exact ⟨horigin, hprofile, hsamples, hsampling⟩
    · rw [stationPitch_beyond p g hwatch hc hbeyond]
      obtain ⟨hidle, hfound⟩ := found_makeAbsent hc
      intro u hu
      obtain ⟨hprofile, horigin, hskipped⟩ := forall_found_of_exists hfound u hu
      exact ⟨hprofile, horigin, hidle, hskipped⟩
  · intro due x t
    refine ⟨stationPitch_not_due p g hwatch, fun hdue u hu => ?_⟩
    obtain ⟨held, hheld, hpitch⟩ := stationPitch_due p g hwatch hdue
    obtain ⟨v, hv, hsame⟩ := hheld.found hc
    have hpresent : present x.top held = true ↔ reads x.top := by rw [present_iff, hheld.settings]
    have ht : t = handleSample n first next absent x held := hpitch
    rw [ht] at hu ⊢
    rw [← hpresent, ← hsame.samples, ← hsame.profile]
    refine ⟨fun hnext hread => ?_, fun hnext hlow ha => ?_, fun hlow ha => ?_, fun hnext hlow ha => ?_, fun hnext hread => ?_⟩
    · obtain ⟨hsampling, hfound⟩ := handleSample_continues (first := first) hnext (.inl hread) hv
      exact ⟨by rw [hsampling, hread]; rfl, forall_found_of_exists hfound u hu⟩
    · obtain ⟨hsampling, hfound⟩ := handleSample_continues (first := first) hnext (.inr ha) hv
      exact ⟨by rw [hsampling, Bool.eq_false_iff.mpr hlow]; rfl, forall_found_of_exists hfound u hu⟩
    · obtain ⟨hidle, hfound⟩ := handleSample_completes (first := first) (next := next) hlow ha hv
      exact ⟨hidle, forall_found_of_exists hfound u hu⟩
    · obtain ⟨hidle, hfound⟩ := handleSample_completes_at_last (first := first) hnext hlow ha hv
      exact ⟨hidle, forall_found_of_exists hfound u hu⟩
    · obtain ⟨hidle, hfound⟩ := handleSample_truncates (first := first) (absent := absent) hnext hread hv
      exact ⟨hidle, forall_found_of_exists hfound u hu⟩

end Sys2Proof.Machine
end

section
/-! SUPPORT. The checks of a layout record (R33, R34), as the rules word them. -/

namespace Sys2Proof.Machine

theorem isFollowing_iff (k : ArchKind) : isFollowing k = true ↔ k = .lift ∨ k = .reachLeft ∨ k = .reachRight := by
  cases k <;> decide

theorem layoutFieldsOk_iff (r : Layout) : layoutFieldsOk r = true ↔
    r.service ≤ 15 ∧ r.offset ≤ 6000 ∧ r.lead ≤ 64 ∧ r.trail ≤ 64 ∧ r.lookAhead ≤ 64 ∧ r.minimum ≤ 4095 ∧ r.maximum ≤ 4095 ∧
    50 ≤ r.slew ∧ r.slew ≤ 2000 ∧ 10 ≤ r.margin ∧ r.margin ≤ 200 ∧ 1 ≤ r.tripThreshold ∧ r.tripThreshold ≤ 255 ∧
    ((r.kind = .lift ∨ r.kind = .reachLeft ∨ r.kind = .reachRight) → r.minimum < r.maximum) ∧
    (r.kind = .spray → r.lookAhead = 0) := by
  have hrange : (!isFollowing r.kind || decide (r.minimum < r.maximum)) = true ↔
      ((r.kind = .lift ∨ r.kind = .reachLeft ∨ r.kind = .reachRight) → r.minimum < r.maximum) := by
    rw [← isFollowing_iff]
    cases isFollowing r.kind <;> simp
  have hspray : (r.kind != .spray || r.lookAhead == 0) = true ↔ (r.kind = .spray → r.lookAhead = 0) := by
    simp [← imp_iff_not_or]
  simp only [layoutFieldsOk, Bool.and_eq_true, within_iff, hrange, hspray, Nat.zero_le, true_and, and_assoc]

theorem archLayoutOk_iff (site : Site) (r : Layout) : archLayoutOk site r = true ↔ (r.kind ≠ .unused →
    site.gaugeOffset + 8 ≤ r.offset ∧
    ((r.kind = .lift ∨ r.kind = .reachLeft ∨ r.kind = .reachRight) → site.gaugeOffset + r.lookAhead + 8 ≤ r.offset) ∧
    r.offset + r.trail + 16 + site.exitTolerance < site.exitOffset ∧ r.lead + r.trail + 150 ≤ site.gap) := by
  have hlook : (!isFollowing r.kind || decide (site.gaugeOffset + r.lookAhead + 8 ≤ r.offset)) = true ↔
      ((r.kind = .lift ∨ r.kind = .reachLeft ∨ r.kind = .reachRight) → site.gaugeOffset + r.lookAhead + 8 ≤ r.offset) := by
    rw [← isFollowing_iff]
    cases isFollowing r.kind <;> simp
  simp only [archLayoutOk, Bool.or_eq_true, Bool.and_eq_true, hlook, decide_eq_true_eq, beq_iff_eq, and_assoc, ne_eq,
    imp_iff_not_or (a := ¬r.kind = .unused), not_not]

theorem layoutChecks_iff (layouts : Vector Layout 12) (site : Site) : layoutChecks layouts site = true ↔
    ∀ a : Fin 12, archLayoutOk site (layouts.get a) = true := by
  simp [layoutChecks, mem_allArches]

end Sys2Proof.Machine
end

section
/-! SUPPORT. What the command law goes by (R33, R36): each arch's phase and command, the layouts in force, and the settings of the
image and of a snapshot. One lemma for each operation that leaves all of it alone. -/

namespace Sys2Proof.Machine

/-! ## The arch channels -/

/-- What the command law speaks of in an arch. -/
def stanceOf (x : Arch) : ArchPhase × Nat := (x.phase, x.command)

/-- What the command law speaks of in the part. -/
def channels (s : State) : (Fin 12 → ArchPhase × Nat) × Vector Layout 12 × Option StoreImage × Option Settings :=
  (fun a => stanceOf (archAt a s), s.settings.layouts, s.store.image, s.store.save.map (·.snapshot))

theorem channels_eq_iff (s t : State) :
    channels t = channels s ↔
      (∀ a, (archAt a t).phase = (archAt a s).phase ∧ (archAt a t).command = (archAt a s).command) ∧
      t.settings.layouts = s.settings.layouts ∧ t.store.image = s.store.image ∧
      t.store.save.map (·.snapshot) = s.store.save.map (·.snapshot) := by
  simp only [channels, stanceOf, Prod.mk.injEq, funext_iff]

theorem channels_foldl {α : Type} (f : State → α → State) (h : ∀ s a, channels (f s a) = channels s) (l : List α) (s : State) :
    channels (l.foldl f s) = channels s :=
  List.foldlRecOn (motive := fun t => channels t = channels s) l f rfl fun t ht a _ => (h t a).trans ht

variable (s : State)

/-! ## Plain updates -/

/-- A change of an arch that leaves phase and command alone. -/
theorem channels_modifyArch (a : Fin 12) (f : Arch → Arch) (h : ∀ x, stanceOf (f x) = stanceOf x) :
    channels (modifyArch a f s) = channels s := by
  refine Prod.ext (funext fun b => ?_) rfl
  show stanceOf (archAt b (modifyArch a f s)) = stanceOf (archAt b s)
  by_cases hb : b = a
  · subst hb
    rw [archAt_modifyArch_same, h]
  · rw [archAt_modifyArch_other a b f s hb]

@[simp] theorem channels_modifyCar (n : Nat) (f : Car → Car) : channels (modifyCar n f s) = channels s := rfl
@[simp] theorem channels_modifyLink (l : Fin 4) (f : Link → Link) : channels (modifyLink l f s) = channels s := rfl
@[simp] theorem channels_raise (c : Cause) : channels (raise c s) = channels s := rfl
@[simp] theorem channels_notify (t : NoticeType) (b : List Byte) : channels (notify t b s) = channels s := rfl
@[simp] theorem channels_markDirty : channels (markDirty s) = channels s := rfl
@[simp] theorem channels_watching (w : Watch) : channels (watching w s) = channels s := rfl
@[simp] theorem channels_forget : channels (forget s) = channels s := rfl
@[simp] theorem channels_modifyHalt (f : HaltRecord → HaltRecord) : channels (modifyHalt f s) = channels s := rfl
@[simp] theorem channels_dropTicket (n : Nat) : channels (dropTicket n s) = channels s := rfl
@[simp] theorem channels_pulseRoller : channels (pulseRoller s) = channels s := rfl
@[simp] theorem channels_recomputeClass : channels (recomputeClass s) = channels s := rfl
@[simp] theorem channels_tagCar (n : Nat) (t : Tag) : channels (tagCar n t s) = channels s := rfl
@[simp] theorem channels_setStatus (n : Nat) (a : Fin 12) (st : ArchStatus) : channels (setStatus n a st s) = channels s := rfl
@[simp] theorem channels_markHalt (n : Nat) : channels (markHalt n s) = channels s := rfl
@[simp] theorem channels_archNotice (r : ArchReason) (a : Fin 12) : channels (archNotice r a s) = channels s := rfl
@[simp] theorem channels_journalNotice (kind : Nat) (b : BankId) (contents : List Byte) :
    channels (journalNotice kind b contents s) = channels s := rfl
@[simp] theorem channels_sealedNotice (b : BankId) : channels (sealedNotice b s) = channels s := rfl
@[simp] theorem channels_ticketNotice (k : TicketNoticeKind) (t : Ticket) (left : Nat) (more : List Byte) :
    channels (ticketNotice k t left more s) = channels s := rfl
@[simp] theorem channels_changeTunnel (new : TunnelState) (r : ChangeReason) (n : Nat) (more : List Byte) :
    channels (changeTunnel new r n more s) = channels s := rfl
@[simp] theorem channels_restartStep (new : TunnelState) (r : ChangeReason) (n : Nat) (more : List Byte) :
    channels (restartStep new r n more s) = channels s := rfl
@[simp] theorem channels_endAttempt (r : ChangeReason) (more : List Byte) : channels (endAttempt r more s) = channels s := rfl
@[simp] theorem channels_payTicket (t : Ticket) (tender : Option Tender) (lapses : Nat) :
    channels (payTicket t tender lapses s) = channels s := rfl
@[simp] theorem channels_endCall (k : Call) : channels (endCall k s) = channels s := rfl
@[simp] theorem channels_endRehearsal (e : RunEnding) (c : Car) : channels (endRehearsal e c s) = channels s := rfl
@[simp] theorem channels_furtherCause (c : Cause) : channels (furtherCause c s) = channels s := rfl
@[simp] theorem channels_modifyBank (b : BankId) (f : Bank → Bank) : channels (modifyBank b f s) = channels s := by
  cases b <;> rfl

@[simp] theorem channels_evaluateRun : channels (evaluateRun s) = channels s := by
  unfold evaluateRun
  repeat' split
  all_goals rfl

@[simp] theorem channels_reevaluate (r : AvailabilityReason) : channels (reevaluate r s) = channels s :=
  (channels_foldl _ (fun u _ => channels_notify u _ _) _ _).trans (channels_foldl _ (fun u _ => channels_notify u _ _) _ _)

/-! ## Cars and their classes -/

@[simp] theorem channels_setClass (n k : Nat) : channels (setClass n k s) = channels s := by
  unfold setClass
  split
  · rfl
  · split <;> simp

@[simp] theorem channels_computeClass (n : Nat) : channels (computeClass n s) = channels s := by
  unfold computeClass
  split
  · rfl
  · split <;> simp

@[simp] theorem channels_paceSample (n : Nat) : channels (paceSample n s) = channels s := by
  unfold paceSample
  split
  · rfl
  · split <;> simp

@[simp] theorem channels_joinDomain (n : Nat) : channels (joinDomain n s) = channels s := by
  unfold joinDomain
  split
  · rfl
  · split <;> simp

@[simp] theorem channels_handStatus (a : Fin 12) (n : Nat) : channels (handStatus a n s) = channels s := by
  unfold handStatus statusSettled
  repeat' split
  all_goals simp

/-! ## Event lists -/

@[simp] theorem channels_insertEvent (a : Fin 12) (e : ArchEvent) : channels (insertEvent a e s) = channels s :=
  channels_modifyArch s a _ fun _ => rfl

@[simp] theorem channels_insertEngages (n : Nat) : channels (insertEngages n s) = channels s := by
  unfold insertEngages
  split
  · rfl
  · split
    · rfl
    · exact channels_foldl _ (fun t a => channels_insertEvent t a _) _ s

@[simp] theorem channels_insertReleases (n : Nat) : channels (insertReleases n s) = channels s := by
  unfold insertReleases
  split
  · rfl
  · split
    · rfl
    · exact channels_foldl _ (fun t a => channels_insertEvent t a _) _ s

@[simp] theorem channels_insertAbsent (n : Nat) : channels (insertAbsent n s) = channels s := by
  unfold insertAbsent
  split
  · rfl
  · split
    · rfl
    · exact (channels_foldl _ (fun t a => by simp) _ _).trans (channels_foldl _ (fun t a => channels_setStatus t n a _) _ s)

/-! ## The station -/

@[simp] theorem channels_dropTrailing (n : Nat) : channels (dropTrailing n s) = channels s := rfl

@[simp] theorem channels_finishProfile (n : Nat) (final : ProfileState) : channels (finishProfile n final s) = channels s := by
  simp [finishProfile]

@[simp] theorem channels_makeAbsent (n : Nat) : channels (makeAbsent n s) = channels s := by
  unfold makeAbsent
  dsimp only
  split <;> simp

@[simp] theorem channels_setOrigin (n : Nat) (p : Pos) (top : Nat) (g : GaugeCodes) :
    channels (setOrigin n p top g s) = channels s := by
  unfold setOrigin
  dsimp only
  split <;> simp

@[simp] theorem channels_searchPitch (n : Nat) (p : Pos) (g : GaugeCodes) : channels (searchPitch n p g s) = channels s := by
  unfold searchPitch
  dsimp only
  repeat' split
  all_goals simp

@[simp] theorem channels_handleSample (n : Nat) (first : Pos) (next : Nat) (absent : Bool) (x : Sample) :
    channels (handleSample n first next absent x s) = channels s := by
  unfold handleSample appendSample
  repeat' split
  all_goals simp

@[simp] theorem channels_samplePitchStep (n : Nat) (first : Pos) (next : Nat) (absent : Bool) (last : Sample) (p : Pos)
    (g : GaugeCodes) : channels (samplePitchStep n first next absent last p g s) = channels s := by
  unfold samplePitchStep
  dsimp only
  split
  · split <;> simp
  · rfl

theorem channels_stationPitch (p : Pos) (g : GaugeCodes) : channels (stationPitch p g s) = channels s := by
  unfold stationPitch
  split <;> simp

@[simp] theorem channels_settleWatched : channels (settleWatched s) = channels s := by
  unfold settleWatched
  split
  · rfl
  · simp
  · dsimp only
    split <;> simp

@[simp] theorem channels_unwatch (n : Nat) : channels (unwatch n s) = channels s := by
  unfold unwatch
  repeat' split
  all_goals simp

/-! ## The journal, the tickets and the calls -/

@[simp] theorem channels_submit (b : BankId) (r : JournalRecord) : channels (submit b r s) = channels s := by
  unfold submit
  dsimp only
  repeat' split
  all_goals simp

@[simp] theorem channels_submitTicket (t : Ticket) (o : WashOutcome) : channels (submitTicket t o s) = channels s := by
  simp [submitTicket]

@[simp] theorem channels_submitCar (c : Car) (k : RemovalKind) (applied : Nat) :
    channels (submitCar c k applied s) = channels s := by
  unfold submitCar sealIfDrained
  repeat' split
  all_goals simp

@[simp] theorem channels_issueCall (t : Ticket) : channels (issueCall t s) = channels s := (channels_evaluateRun _).trans rfl

@[simp] theorem channels_arbitrateWith (gap : Bool) : channels (arbitrateWith gap s) = channels s := by
  unfold arbitrateWith
  repeat' split
  all_goals simp

@[simp] theorem channels_arbitrate : channels (arbitrate s) = channels s := channels_arbitrateWith s _

@[simp] theorem channels_cancelCall : channels (cancelCall s) = channels s := by
  unfold cancelCall
  dsimp only
  repeat' split
  all_goals rfl

@[simp] theorem channels_closeIfEmpty : channels (closeIfEmpty s) = channels s := by
  unfold closeIfEmpty
  split <;> simp

@[simp] theorem channels_releaseRemembered (n : Nat) : channels (releaseRemembered n s) = channels s := by
  unfold releaseRemembered
  repeat' split
  all_goals simp

@[simp] theorem channels_forgetTicket (n : Nat) : channels (forgetTicket n s) = channels s := by
  unfold forgetTicket
  repeat' split
  all_goals simp

/-! ## The Supervisor and the links -/

@[simp] theorem channels_abandonRehearsal (n : Nat) : channels (abandonRehearsal n s) = channels s := by
  unfold abandonRehearsal
  repeat' split
  all_goals simp

@[simp] theorem channels_endHalt (e : HaltEnding) : channels (endHalt e s) = channels s := by
  unfold endHalt
  split <;> rfl

@[simp] theorem channels_enterOpen : channels (enterOpen s) = channels s := by simp [enterOpen]

@[simp] theorem channels_afterResume : channels (afterResume s) = channels s := by
  unfold afterResume
  split <;> simp

@[simp] theorem channels_missingPitch (p : Pos) : channels (missingPitch p s) = channels s := by
  unfold missingPitch
  repeat' split
  all_goals simp

@[simp] theorem channels_afterFollow (a : Fin 12) (n : Nat) (p : Pos) (f : Followed) :
    channels (afterFollow a n p f s) = channels s := by
  unfold afterFollow writeTrace
  dsimp only
  repeat' split
  all_goals rfl

@[simp] theorem channels_flush : channels (flush s) = channels s := by
  obtain ⟨links, -, h⟩ := flush_frame s
  rw [h]
  rfl

end Sys2Proof.Machine
end

section
/-! SUPPORT. The command law under every operation that sends an arch home, lets it take a car or moves it (R33, R36, R43, R48,
R60 to R62). -/

namespace Sys2Proof.Machine

/-! ## One arch in range -/

/-- An arch under its layout: only a following kind is FOLLOWING, and the command lies within the range, at its maximum for the
other kinds (R36). -/
def InRange (r : Layout) (x : Arch) : Prop :=
  (x.phase = .following → isFollowing r.kind = true) ∧ x.command ≤ r.maximum ∧
    if isFollowing r.kind then r.minimum ≤ x.command else x.command = r.maximum

variable {s t : State} {r : Layout} {x : Arch}

theorem CommandLaw.inRange (h : CommandLaw s) (a : Fin 12) : InRange (layoutAt a s) (archAt a s) :=
  have ⟨_, _, _, hall⟩ := h
  hall a

theorem InRange.of_stance {y : Arch} (h : InRange r x) (he : stanceOf y = stanceOf x) : InRange r y := by
  obtain ⟨hphase, hcommand⟩ := Prod.mk.inj he
  unfold InRange at h ⊢
  rwa [hphase, hcommand]

/-- At the maximum and not FOLLOWING an arch is in range, where its layout's range holds. -/
theorem inRange_home (hr : isFollowing r.kind = true → r.minimum ≤ r.maximum) (hphase : x.phase ≠ .following)
    (hcommand : x.command = r.maximum) : InRange r x := by
  refine ⟨fun h => absurd h hphase, hcommand.le, ?_⟩
  split
  next hf => exact hcommand ▸ hr hf
  · exact hcommand

/-- An arch that stands where it did is in range in any phase but FOLLOWING. -/
theorem InRange.stopped {y : Arch} (h : InRange r x) (hphase : y.phase ≠ .following) (hcommand : y.command = x.command) :
    InRange r y := by
  obtain ⟨-, hle, hrange⟩ := h
  exact ⟨fun hf => absurd hf hphase, hcommand ▸ hle, hcommand ▸ hrange⟩

/-- Going home keeps an arch in range: a following arch is commanded to its maximum, another stands there already (R48). -/
theorem InRange.goHome (h : InRange r x) (site : Site) (hr : isFollowing r.kind = true → r.minimum ≤ r.maximum) :
    InRange r (x.goHome r site) := by
  obtain ⟨-, -, -, hphase, hcommand⟩ := goHome_frees r site x
  have hleft : (x.goHome r site).phase ≠ .following := by
    rw [hphase]
    split <;> simp
  refine inRange_home hr hleft ?_
  cases hf : isFollowing r.kind with
  | true => exact hcommand hf
  | false =>
    obtain ⟨-, -, hrange⟩ := h
    have hstays : (x.goHome r site).command = x.command := by simp [Arch.goHome, hf]
    simpa [hstays, hf] using hrange

/-- Taking a car leaves the command where it stands (R43). -/
theorem InRange.take (h : InRange r x) (n : Nat) : InRange r (x.take r n) := by
  obtain ⟨-, hle, hrange⟩ := h
  refine ⟨fun hphase => ?_, hle, hrange⟩
  by_contra hf
  simp [Arch.take, hf] at hphase

/-! ## The following computation (R60 to R62) -/

theorem clampTo_mem {lo hi : Nat} (h : lo ≤ hi) (v : Int) : lo ≤ clampTo lo hi v ∧ clampTo lo hi v ≤ hi := by
  unfold clampTo
  repeat' split
  all_goals omega

/-- A step towards a target leaves no range that holds both command and target (R62). -/
theorem newCommand_mem {lo hi target command : Nat} (step : Nat) (ht : lo ≤ target ∧ target ≤ hi)
    (hc : lo ≤ command ∧ command ≤ hi) : lo ≤ newCommand target command step ∧ newCommand target command step ≤ hi := by
  unfold newCommand
  repeat' split
  all_goals omega

theorem InRange.follow (h : InRange r x) (hphase : x.phase = .following) (speed : Nat) (p o : Pos) (c : Car) :
    InRange r { x with command := (followCar r speed x.command p o c).command } := by
  obtain ⟨hkind, hle, hrange⟩ := h
  have hf := hkind hphase
  rw [if_pos hf] at hrange
  obtain ⟨hmin, hmax⟩ := newCommand_mem (stepLimit r.slew speed)
    (clampTo_mem (hrange.trans hle) ((windowValue (c.samples.map (seriesOf r.kind)) (carCoordinate p o r.offset) r.lookAhead : Int)
      - pressFor c.services r.service)) ⟨hrange, hle⟩
  refine ⟨fun _ => hf, hmax, ?_⟩
  rw [if_pos hf]
  exact hmin

/-! ## The law under plain updates -/

theorem CommandLaw.of_channels (hc : channels t = channels s) (h : CommandLaw s) : CommandLaw t := by
  obtain ⟨harches, hlayouts, himage, hsave⟩ := (channels_eq_iff s t).mp hc
  obtain ⟨hsettings, hkept, hsnapshot, hall⟩ := h
  refine ⟨?_, himage ▸ hkept, fun k hk => ?_, fun a => ?_⟩
  · unfold RangesHold
    rwa [hlayouts]
  · rw [hk, Option.map_some] at hsave
    obtain ⟨k', hk', he⟩ := Option.map_eq_some_iff.mp hsave.symm
    exact he ▸ hsnapshot k' hk'
  · obtain ⟨hphase, hcommand⟩ := harches a
    rw [hphase, hcommand, layoutAt, hlayouts]
    exact hall a

theorem modifyArch_ranged (a : Fin 12) (f : Arch → Arch)
    (hf : InRange (layoutAt a s) (archAt a s) → InRange (layoutAt a s) (f (archAt a s))) (h : CommandLaw s) :
    CommandLaw (modifyArch a f s) := by
  obtain ⟨hsettings, himage, hsnapshot, hall⟩ := h
  refine ⟨hsettings, himage, hsnapshot, fun b => ?_⟩
  show InRange (layoutAt b s) (archAt b (modifyArch a f s))
  by_cases hb : b = a
  · subst hb
    rw [archAt_modifyArch_same]
    exact hf (hall b)
  · rw [archAt_modifyArch_other a b f s hb]
    exact hall b

/-- A change of an arch that leaves phase and command alone. -/
theorem modifyArch_ranged_of_stance (a : Fin 12) (f : Arch → Arch) (hf : ∀ x, stanceOf (f x) = stanceOf x) (h : CommandLaw s) :
    CommandLaw (modifyArch a f s) := h.of_channels (channels_modifyArch s a f hf)

/-! ## Arches -/

theorem startReturn_ranged (a : Fin 12) (h : CommandLaw s) : CommandLaw (startReturn a s) := by
  have ⟨hsettings, _⟩ := h
  exact modifyArch_ranged a _ (fun hx => hx.goHome s.settings.site (hsettings a)) h

theorem letGo_ranged (a : Fin 12) (n : Nat) (h : CommandLaw s) : CommandLaw (letGo a n s) := by
  unfold letGo
  split
  · exact startReturn_ranged a h
  · exact h

theorem purgeArch_ranged (n : Nat) (a : Fin 12) (h : CommandLaw s) : CommandLaw (purgeArch n s a) :=
  letGo_ranged a n (modifyArch_ranged_of_stance a _ (fun _ => rfl) h)

theorem purgeCar_ranged (n : Nat) (h : CommandLaw s) : CommandLaw (purgeCar n s) := by
  unfold purgeCar
  exact List.foldlRecOn (motive := CommandLaw) allArches _ h fun _ ht a _ => purgeArch_ranged n a ht

theorem clearArch_ranged (a : Fin 12) (h : CommandLaw s) : CommandLaw (clearArch s a) := by
  have hemptied := modifyArch_ranged_of_stance a (fun x => { x with events := [] }) (fun _ => rfl) h
  unfold clearArch
  dsimp only
  split
  · exact startReturn_ranged a hemptied
  · exact startReturn_ranged a hemptied
  all_goals exact hemptied

theorem withdraw_ranged (a : Fin 12) (h : CommandLaw s) : CommandLaw (withdraw s a) := by
  unfold withdraw
  dsimp only
  split
  · split
    · exact startReturn_ranged a h
    · exact (startReturn_ranged a h).of_channels (by simp)
  · exact h

theorem fireEngage_ranged (a : Fin 12) (n : Nat) (h : CommandLaw s) : CommandLaw (fireEngage a n s) := by
  unfold fireEngage
  dsimp only
  repeat' split
  case isFalse.isFalse.isFalse.isFalse =>
    exact modifyArch_ranged a _ (fun hx => hx.take n) (h.of_channels (channels_setStatus s _ _ _))
  all_goals exact h.of_channels (by simp)

theorem fireRelease_ranged (a : Fin 12) (n : Nat) (h : CommandLaw s) : CommandLaw (fireRelease a n s) := by
  have hgone := letGo_ranged a n h
  cases hc : findCar n s with
  | none =>
    have he : fireRelease a n s = letGo a n s := by simp only [fireRelease, hc]; rfl
    rwa [he]
  | some c =>
    rw [fireRelease_eq hc]
    split
    · have hcounted := modifyArch_ranged_of_stance a (fun x => { x with trips := 0 }) (fun _ => rfl) hgone
      exact hcounted.of_channels (by simp)
    · exact hgone

theorem fireDue_ranged (a : Fin 12) (p : Pos) (before : List ArchEvent) (h : CommandLaw s) :
    CommandLaw (fireDue a p before s) := by
  refine List.foldlRecOn (motive := CommandLaw) _ _ (modifyArch_ranged_of_stance a _ (fun _ => rfl) h) fun t ht e _ => ?_
  unfold fireEvent
  split
  · exact fireEngage_ranged a e.car ht
  · exact fireRelease_ranged a e.car ht

theorem tripsOut_ranged (a : Fin 12) (h : CommandLaw s) : CommandLaw (tripsOut a s) := by
  unfold tripsOut
  split
  · exact (modifyArch_ranged_of_stance a (fun x => { x with outOfService := true }) (fun _ => rfl) h).of_channels (by simp)
  · exact h

theorem trip_ranged (a : Fin 12) (n : Nat) (h : CommandLaw s) : CommandLaw (trip a n s) := by
  refine tripsOut_ranged a ?_
  have hcounted := modifyArch_ranged_of_stance a (fun x => { x with trips := min (x.trips + 1) 3 }) (fun _ => rfl)
    ((startReturn_ranged a h).of_channels (channels_handStatus (tagCar n (.archTrip a) (setStatus n a .skipped (startReturn a s))) a n))
  split
  · exact hcounted
  · exact hcounted

theorem loadCheck_ranged (a : Fin 12) (h : CommandLaw s) : CommandLaw (loadCheck a s) := by
  unfold loadCheck
  dsimp only
  split
  · exact h
  · split
    · exact h
    · split
      · exact trip_ranged a _ (modifyArch_ranged_of_stance a _ (fun _ => rfl) h)
      · exact modifyArch_ranged_of_stance a _ (fun _ => rfl) h

theorem followStep_ranged (a : Fin 12) (p : Pos) (settle : Nat) (h : CommandLaw s) : CommandLaw (followStep a p settle s) := by
  unfold followStep
  dsimp only
  split
  · exact h
  split
  · exact h
  next hphase =>
    have hfollowing : (archAt a s).phase = .following := by simpa using hphase
    split
    · exact h
    split
    · exact h
    next c _ _ o _ =>
      refine CommandLaw.of_channels (channels_afterFollow _ a _ p _) ?_
      exact modifyArch_ranged a _ (fun hx => hx.follow hfollowing _ p o c) h

theorem archPitch_ranged (a : Fin 12) (p : Pos) (settle : Nat) (before : List ArchEvent) (h : CommandLaw s) :
    CommandLaw (archPitch a p settle before s) :=
  followStep_ranged a p settle (loadCheck_ranged a (fireDue_ranged a p before h))

end Sys2Proof.Machine
end

section
/-! SUPPORT. The command law under removals, causes, pitches, requests, line events and starts (R33, R36). -/

namespace Sys2Proof.Machine

variable {s : State}

/-! ## Removals and causes -/

theorem removeCar_ranged (c : Car) (k : RemovalKind) (h : CommandLaw s) : CommandLaw (removeCar c k s) := by
  have hleft : CommandLaw { s with entry.table := s.entry.table.filter fun k => k.number != c.number } := h
  refine (purgeCar_ranged c.number hleft).of_channels ?_
  unfold removeCar
  dsimp only
  split <;> simp

theorem removeAll_ranged (k : RemovalKind) (h : CommandLaw s) : CommandLaw (removeAll k s) :=
  List.foldlRecOn (motive := CommandLaw) _ _ h fun _ ht _ _ => removeCar_ranged _ k ht

theorem withdrawAll_ranged (h : CommandLaw s) : CommandLaw (withdrawAll s) := by
  unfold withdrawAll
  exact List.foldlRecOn (motive := CommandLaw) allArches _ h fun _ ht a _ => withdraw_ranged a ht

theorem dropPhantom_ranged (h : CommandLaw s) : CommandLaw (dropPhantom s) := by
  unfold dropPhantom
  split
  · exact h
  · exact removeCar_ranged _ _ h

theorem firstCause_ranged (c : Cause) (h : CommandLaw s) : CommandLaw (firstCause c s) := by
  have habandoned : CommandLaw (abandonRehearsal (newHalt c s).number s) := h.of_channels (channels_abandonRehearsal s _)
  unfold firstCause
  dsimp only
  refine CommandLaw.of_channels (channels_evaluateRun _) (dropPhantom_ranged ?_)
  refine CommandLaw.of_channels ((channels_forget _).trans (channels_cancelCall _)) (withdrawAll_ranged ?_)
  refine CommandLaw.of_channels ((channels_markHalt _ _).trans (channels_changeTunnel _ _ _ _ _)) ?_
  exact habandoned

theorem takeCause_ranged (c : Cause) (h : CommandLaw s) : CommandLaw (takeCause c s) := by
  unfold takeCause
  split
  · exact h.of_channels (channels_furtherCause s c)
  · exact h.of_channels (by simp)
  all_goals exact firstCause_ranged c h

theorem takeCauses_ranged (h : CommandLaw s) : CommandLaw (takeCauses s) :=
  List.foldlRecOn (motive := CommandLaw) s.raised _ h fun _ ht c _ => takeCause_ranged c ht

/-! ## Pitches -/

theorem rehearsalPitch_ranged (p : Pos) (h : CommandLaw s) : CommandLaw (rehearsalPitch p s) := by
  unfold rehearsalPitch
  split
  · split
    · exact h
    next c _ => exact (removeCar_ranged c .cleared h).of_channels (by simp)
  · exact h

theorem controlPitch_ranged (p : Pos) (h : CommandLaw s) : CommandLaw (controlPitch p s) :=
  rehearsalPitch_ranged p (h.of_channels (channels_missingPitch _ p))

theorem blockActs_ranged (e : PitchEvent) (x : State × Bool) (b : PitchBlock) (h : CommandLaw x.1) :
    CommandLaw (blockActs e x b).1 := by
  cases b with
  | station => exact h.of_channels (channels_stationPitch x.1 e.position e.gauges)
  | arch a => exact archPitch_ranged a e.position e.settle (e.before.get a) h
  | entryExit => exact controlPitch_ranged e.position h
  | supervisor => exact takeCauses_ranged h

theorem forwardPitch_ranged (g : GaugeCodes) (order : List PitchBlock) (h : CommandLaw s) :
    CommandLaw (forwardPitch g order s) := by
  refine CommandLaw.of_channels (channels_arbitrateWith _ _) (takeCauses_ranged ?_)
  exact List.foldlRecOn (motive := fun x : State × Bool => CommandLaw x.1) _ _ h fun x hx b _ => blockActs_ranged _ x b hx

theorem encoderChange_ranged (phase : Fin 4) (g : GaugeCodes) (order : List PitchBlock) (h : CommandLaw s) :
    CommandLaw (encoderChange phase g order s) := by
  have hphase : CommandLaw { s with tracker.phase := phase } := h
  unfold encoderChange
  dsimp only
  split
  · exact hphase
  · exact forwardPitch_ranged g order hphase
  · exact takeCause_ranged _ hphase
  · unfold reversePitch
    dsimp only
    split
    · exact takeCause_ranged _ h
    · exact h

/-! ## Admissions and exits -/

theorem channels_buildRecord (n : Nat) (sale : Sale) (s : State) : channels (buildRecord n sale s) = channels s := by
  unfold buildRecord countAdmitted
  exact (channels_modifyBank _ _ _).trans (channels_settleWatched { s with entry.carCounter := stepOn 65535 n })

theorem handCloseFollow_ranged (n : Nat) (close : Bool) (h : CommandLaw s) : CommandLaw (handCloseFollow n close s) := by
  unfold handCloseFollow
  split
  · exact takeCause_ranged _ (h.of_channels (channels_tagCar s n _))
  · exact h

theorem admitTicket_ranged (t : Ticket) (h : CommandLaw s) : CommandLaw (admitTicket t s) := by
  have hbuilt : CommandLaw (dropTicket t.number (buildRecord (nextCarNumber s) (saleOfTicket t) s)) :=
    h.of_channels ((channels_dropTicket _ _).trans (channels_buildRecord _ _ s))
  have hended (u : State) : channels (match u.entry.call with
      | none => u
      | some k => endCall k u) = channels u := by
    split <;> rfl
  unfold admitTicket
  dsimp only
  refine CommandLaw.of_channels ((channels_arbitrate _).trans (channels_evaluateRun _)) (handCloseFollow_ranged _ _ ?_)
  refine hbuilt.of_channels ((channels_ticketNotice _ _ _ _ _).trans ((channels_pulseRoller _).trans ?_))
  exact (channels_forget _).trans (hended _)

theorem admitUnbidden_ranged (h : CommandLaw s) : CommandLaw (admitUnbidden s) := by
  unfold admitUnbidden
  dsimp only
  refine CommandLaw.of_channels ((channels_arbitrate _).trans (channels_evaluateRun _)) (handCloseFollow_ranged _ _ ?_)
  refine h.of_channels ((channels_notify _ _ _).trans ((channels_tagCar _ _ _).trans ?_))
  exact (channels_pulseRoller _).trans ((channels_forget _).trans (channels_buildRecord _ _ s))

theorem admitOpen_ranged (h : CommandLaw s) : CommandLaw (admitOpen s) := by
  unfold admitOpen
  split
  · split
    · exact admitTicket_ranged _ h
    · exact admitUnbidden_ranged h
  · split
    · split
      · exact admitTicket_ranged _ h
      · exact admitUnbidden_ranged h
    · exact admitUnbidden_ranged h

theorem entryFront_ranged (h : CommandLaw s) : CommandLaw (entryFront s) := by
  unfold entryFront
  split
  · exact h.of_channels (channels_modifyHalt s _)
  · exact h.of_channels (channels_modifyHalt s _)
  · exact takeCause_ranged _ h
  · exact h.of_channels (channels_notify s _ _)
  · split
    · exact admitOpen_ranged h
    · exact takeCause_ranged _ h
  · split
    · exact admitUnbidden_ranged h
    · exact takeCause_ranged _ h

theorem entryClosing_ranged (h : CommandLaw s) : CommandLaw (entryClosing s) := by
  have hclosed : CommandLaw { s with entry.entryClosed := true } := h
  unfold entryClosing
  dsimp only
  split
  · exact hclosed
  · exact (entryFront_ranged hclosed).of_channels rfl

theorem exitFront_ranged (h : CommandLaw s) : CommandLaw (exitFront s) := by
  unfold exitFront
  split
  · exact (removeCar_ranged _ .exit h).of_channels (channels_arbitrate _)
  · unfold exitStray
    split
    · exact h.of_channels (channels_modifyHalt s _)
    · exact takeCause_ranged _ h

theorem exitClosing_ranged (h : CommandLaw s) : CommandLaw (exitClosing s) := by
  have hclosed : CommandLaw { s with entry.exitClosed := true } := h
  unfold exitClosing
  dsimp only
  split
  · exact hclosed
  · exact (exitFront_ranged hclosed).of_channels rfl

/-! ## Line events and expiries -/

theorem homeSwitch_ranged (a : Fin 12) (closed : Bool) (h : CommandLaw s) : CommandLaw (homeSwitch a closed s) := by
  refine modifyArch_ranged a _ (fun hx => ?_) h
  unfold Arch.homeSwitch
  split
  · exact hx.stopped nofun rfl
  · exact hx.of_stance rfl

theorem returnExpires_ranged (a : Fin 12) (h : CommandLaw s) : CommandLaw (returnExpires a s) := by
  have hjammed : CommandLaw (modifyArch a (fun x => { x with phase := .jammed, timer := none }) s) :=
    modifyArch_ranged a _ (fun hx => hx.stopped nofun rfl) h
  unfold returnExpires jam
  split
  · exact (takeCause_ranged (.archJam a) hjammed).of_channels (by simp)
  · exact h

theorem stallExpires_ranged (h : CommandLaw s) : CommandLaw (stallExpires s) := by
  unfold stallExpires
  split
  · exact takeCause_ranged _ h
  · exact h

theorem estopChange_ranged (asserted : Bool) (h : CommandLaw s) : CommandLaw (estopChange asserted s) := by
  unfold estopChange
  dsimp only
  split
  · exact takeCause_ranged _ h
  · exact h

theorem channels_callLapses (s : State) : channels (callLapses s) = channels s := by
  have hlapsed (t : Ticket) : channels (lapseTicket t s) = channels s := by
    unfold lapseTicket
    dsimp only
    split <;> rfl
  unfold callLapses
  split
  · rfl
  · split
    · refine (channels_evaluateRun _).trans ?_
      split
      · rfl
      · exact hlapsed _
    · rfl

theorem channels_graceExpires (s : State) : channels (graceExpires s) = channels s := by
  unfold graceExpires
  split <;> simp

theorem channels_holdExpires (n : Nat) (s : State) : channels (holdExpires n s) = channels s := by
  unfold holdExpires
  repeat' split
  all_goals rfl

theorem channels_windowExpires (s : State) : channels (windowExpires s) = channels s := by
  unfold windowExpires
  split <;> simp

theorem channels_saveStageBegins (s : State) : channels (saveStageBegins s) = channels s := by
  simp [channels, saveStageBegins, Function.comp_def, archAt]

theorem channels_pulseEnds (s : State) : channels (pulseEnds s) = channels s := by
  unfold pulseEnds
  split <;> rfl

theorem channels_treadleOpens (t : Treadle) (s : State) : channels (treadleOpens t s) = channels s := by cases t <;> rfl

/-! ## The image and the snapshot (R185, R188 to R190) -/

/-- The image that a save leaves holds its snapshot. -/
theorem imageLeft_ranged (verified : Bool) {k : Save} (h : RangesHold k.snapshot) :
    ∀ image ∈ imageLeft k verified, RangesHold image.settings := by
  unfold imageLeft
  split
  · intro image hi
    obtain rfl := Option.some.inj hi
    exact h
  · nofun

/-- A save that has ended leaves an image in range. -/
theorem CommandLaw.save_ended (h : CommandLaw s) (store : Store) (hsave : store.save = none)
    (himage : ∀ image ∈ store.image, RangesHold image.settings) : CommandLaw { s with store := store } := by
  obtain ⟨hsettings, -, -, hall⟩ := h
  refine ⟨hsettings, himage, ?_, hall⟩
  rw [hsave]
  nofun

theorem saveReported_ranged (passed : Bool) (h : CommandLaw s) : CommandLaw (saveReported passed s) := by
  have ⟨_, _, hsnapshot, _⟩ := h
  unfold saveReported
  split
  · exact h
  next k hk =>
    refine h.save_ended _ rfl fun image hi => ?_
    cases passed with
    | true =>
      obtain rfl := Option.some.inj hi
      exact hsnapshot k hk
    | false => cases hi

theorem saveExpires_ranged (verified : Bool) (h : CommandLaw s) : CommandLaw (saveExpires verified s) := by
  have ⟨_, _, hsnapshot, _⟩ := h
  unfold saveExpires
  split
  · exact h
  next k hk =>
    split
    · exact h.save_ended _ rfl (imageLeft_ranged verified (hsnapshot k hk))
    · exact h

theorem mediumImage_ranged (verified : Bool) (h : CommandLaw s) :
    ∀ image ∈ mediumImage verified s, RangesHold image.settings := by
  obtain ⟨-, himage, hsnapshot, -⟩ := h
  unfold mediumImage
  split
  · exact himage
  next k hk => exact imageLeft_ranged verified (hsnapshot k hk)

/-! ## Starts and the supply (R54, R187, R190) -/

theorem rangesHold_unconfigured : RangesHold unconfiguredSettings := by decide

theorem loadImage_ranged (lines : LineLevels) (s : State) (h : ∀ image ∈ s.store.image, RangesHold image.settings) :
    RangesHold (loadImage lines s).settings ∧ (loadImage lines s).store.image = s.store.image ∧
      (loadImage lines s).store.save = none := by
  by_cases hc : ∃ i, s.store.image = some i ∧ i.check = imageCheck i.settings
  · obtain ⟨i, hi, hcheck⟩ := hc
    obtain ⟨hsettings, hstore⟩ := loadImage_of_passing lines hi hcheck
    rw [hsettings, hstore]
    exact ⟨h i hi, rfl, rfl⟩
  · obtain ⟨hsettings, hstore⟩ := loadImage_of_failing (s := s) lines fun i hi hcheck => hc ⟨i, hi, hcheck⟩
    rw [hsettings, hstore]
    exact ⟨rangesHold_unconfigured, rfl, rfl⟩

/-- A start sets every arch at home under the settings it loads. -/
theorem startArch_inRange {r : Layout} (site : Site) (homeClosed : Bool)
    (hr : isFollowing r.kind = true → r.minimum ≤ r.maximum) : InRange r (startArch r site homeClosed) :=
  InRange.goHome (inRange_home hr (by exact nofun) rfl) site hr

theorem start_ranged (lines : LineLevels) (s : State) (h : ∀ image ∈ s.store.image, RangesHold image.settings) :
    CommandLaw (start lines s) := by
  obtain ⟨hsettings, himage, hsave⟩ := loadImage_ranged lines s h
  have hblocks : CommandLaw (startedBlocks lines s) := by
    refine ⟨hsettings, himage ▸ h, fun k hk => ?_, fun a => ?_⟩
    · exact absurd (hsave.symm.trans hk) nofun
    · rw [archAt_startedBlocks]
      exact startArch_inRange _ _ (hsettings a)
  unfold start estopAtStart
  split
  · exact takeCause_ranged _ hblocks
  · exact hblocks

theorem loseSupply_ranged (verified : Bool) (h : CommandLaw s) : CommandLaw (loseSupply verified s) := by
  refine ⟨rangesHold_unconfigured, mediumImage_ranged verified h, nofun, ?_⟩
  exact (show ∀ a, InRange (layoutAt a State.reset) (archAt a State.reset) by unfold InRange; decide)

theorem powerOn_ranged (lines : LineLevels) (verified : Bool) (h : CommandLaw s) : CommandLaw (powerOn lines verified s) := by
  have ⟨_, himage, _⟩ := h
  unfold powerOn
  split
  · exact start_ranged lines _ (mediumImage_ranged verified h)
  · exact start_ranged lines _ himage

theorem resetLine_ranged (lines : LineLevels) (verified : Bool) (h : CommandLaw s) :
    CommandLaw (resetLine lines verified s) := by
  obtain ⟨-, hmedium, -⟩ := recordInFlight_spec verified s
  refine start_ranged lines _ ?_
  rw [hmedium]
  exact mediumImage_ranged verified h

theorem channels_passUnit (s : State) : channels (passUnit s) = channels s := by
  refine (channels_eq_iff s _).mpr ⟨fun a => ?_, rfl, rfl, ?_⟩
  · simp [archAt, passUnit]
  · simp [passUnit, Function.comp_def]

theorem idle_ranged (h : CommandLaw s) : CommandLaw (idle s) := by
  unfold idle
  split
  · exact h.of_channels (channels_passUnit s)
  · exact h

end Sys2Proof.Machine
end

section
/-! SUPPORT. What every step keeps: a property that requests and causes keep, and in which the links, the causes and notices left
over and the queue play no part, is kept by every frame and every byte (R171 to R176). -/

namespace Sys2Proof.Machine

/-! ## Requests as commands -/

/-- A command that a request's frame carries is that request: its frame arrives and its owner acts (R173, R174). -/
theorem exec_request (i : Instr) (l : Fin 4) (s : State) (hl : requestLink i = some l)
    (hk : ∀ kind body, i ≠ .unknownKindRequest l kind body) : exec i s = request l i (runRequest i) s := by
  cases i with
  | unknownKindRequest m kind body =>
    obtain rfl := Option.some.inj hl
    exact absurd rfl (hk kind body)
  | _ => cases hl <;> rfl

/-! ## Lasting properties -/

/-- A property that every request and every cause keeps, whatever stands on the links, in the outbox and in the queue. -/
structure Lasting (P : State → Prop) : Prop where
  frames : ∀ s links raised outbox pending, P s →
    P { s with links := links, raised := raised, outbox := outbox, pending := pending }
  request : ∀ i s, P s → P (runRequest i s).1
  cause : ∀ c s, P s → P (takeCause c s)

/-- An outcome is a next state of which the property holds. -/
def LeadsTo (P : State → Prop) (o : Host.Outcome State Fault Refusal) : Prop := ∀ t, o = .next t → P t

variable {P : State → Prop} {s : State}

namespace Lasting

theorem of_links (H : Lasting P) (links : Vector Link 4) (h : P s) : P { s with links := links } :=
  H.frames s links s.raised s.outbox s.pending h

theorem of_link (H : Lasting P) (l : Fin 4) (f : Link → Link) (h : P s) : P (modifyLink l f s) := H.of_links _ h

theorem of_pending (H : Lasting P) (pending : List Instr) (h : P s) : P { s with pending := pending } :=
  H.frames s s.links s.raised s.outbox pending h

theorem flushed (H : Lasting P) (h : P s) : P (flush s) := by
  obtain ⟨links, -, he⟩ := flush_frame s
  exact he ▸ H.frames s links s.raised [] s.pending h

theorem answered (H : Lasting P) (l : Fin 4) (kind : Byte) (x : State × Reply) (h : P x.1) : P (answer l kind x) := by
  obtain ⟨links, -, he⟩ := answer_frame l kind x
  exact he ▸ H.frames x.1 links x.1.raised [] x.1.pending h

theorem causesTaken (H : Lasting P) (h : P s) : P (takeCauses s) :=
  List.foldlRecOn (motive := P) s.raised _ (H.frames s s.links [] s.outbox s.pending h) fun t ht c _ => H.cause c t ht

theorem settled (H : Lasting P) (h : P s) : P (settleEvent s) := H.flushed (H.causesTaken h)

/-! ## Frames and bytes -/

theorem frameTaken (H : Lasting P) (l : Fin 4) (f : Frame) (h : P s) : P (takeFrame l f s) := by
  unfold takeFrame
  split
  · exact H.answered l _ _ h
  · exact H.answered l _ _ (H.request _ s h)

theorem pendingTaken (H : Lasting P) (l : Fin 4) (h : P s) : P (takePending l s) := by
  unfold takePending
  split
  · exact H.frameTaken l _ (H.of_link l _ h)
  all_goals exact h

/-- A frame that arrives is taken, held or discarded; a pending frame may be taken before it (R173). -/
theorem arrived (H : Lasting P) (l : Fin 4) (f : Frame) (act : State → State) (hact : ∀ t, P t → P (act t)) (h : P s) :
    P (arrive l f act s) := by
  have taken (t : State) (ht : P t) : P (takeOrHold l f act t) := by
    unfold takeOrHold
    split
    · exact hact t ht
    · exact H.of_link l _ ht
  unfold arrive
  split
  · exact taken s h
  · split
    · exact H.of_link l _ h
    · exact taken _ (H.pendingTaken l h)

theorem received (H : Lasting P) (l : Fin 4) (b : Byte) (h : P s) : P (receive l b s) := by
  unfold receive
  split
  · split
    · exact H.of_link l _ h
    · exact h
  · split <;> exact H.of_link l _ h
  · split <;> exact H.of_link l _ h
  · split
    · exact H.arrived l _ _ (fun t ht => H.frameTaken l _ ht) (H.of_link l _ h)
    · exact H.of_link l _ h
    · exact H.of_link l _ h

theorem waitingPlaced (H : Lasting P) (l : Fin 4) (h : P s) : P (placeWaiting l s) := by
  unfold placeWaiting
  split
  · exact h
  · split
    · exact H.of_link l _ h
    · exact h

/-! ## Commands -/

theorem event (H : Lasting P) (f : State → State) (h : P s) (hf : P (f s)) : LeadsTo P (event f s) := by
  intro t ht
  unfold Machine.event at ht
  split at ht
  · obtain rfl := Host.Outcome.next.inj ht
    exact H.of_pending _ (H.settled hf)
  · obtain rfl := Host.Outcome.next.inj ht
    exact h

theorem supplyEvent (H : Lasting P) (f : State → State) (hf : P (f s)) : LeadsTo P (supplyEvent f s) := by
  intro t ht
  obtain rfl := Host.Outcome.next.inj ht
  exact H.of_pending _ (H.settled hf)

/-- Every command that comes from a link keeps a lasting property. -/
theorem ofRequest (H : Lasting P) (i : Instr) (l : Fin 4) (hl : requestLink i = some l) (h : P s) : LeadsTo P (exec i s) := by
  by_cases hk : ∃ kind body, i = .unknownKindRequest l kind body
  · obtain ⟨kind, body, rfl⟩ := hk
    exact H.event _ h (H.arrived l _ _ (fun t ht => H.frameTaken l _ ht) h)
  · rw [exec_request i l s hl fun kind body hi => hk ⟨kind, body, hi⟩]
    exact H.event _ h (H.arrived l _ _ (fun t ht => H.answered l _ _ (H.request i t ht)) h)

end Lasting

end Sys2Proof.Machine
end

section
/-! The command law under every command (R33, R36): what each request does to it, and the statement. -/

namespace Sys2Proof.Machine

variable {s : State}

/-! ## The requests of the arches -/

/-- A record that passes its checks is put in force, and its arch set at its maximum (R33, R35). -/
theorem setArchRecord_ranged (a : Fin 12) (r : Layout) (hr : layoutFieldsOk r = true) (h : CommandLaw s) :
    CommandLaw (setArchRecord a r s) := by
  have hrange : isFollowing r.kind = true → r.minimum ≤ r.maximum := by
    obtain ⟨-, -, -, -, -, -, -, -, -, -, -, -, -, hlt, -⟩ := (layoutFieldsOk_iff r).mp hr
    exact fun hf => (hlt ((isFollowing_iff _).mp hf)).le
  have hfresh : CommandLaw (modifyArch a (Arch.fresh r) (markDirty { s with
      settings.layouts := modifyAt s.settings.layouts a fun _ => r
      store.layoutPresent := true })) := by
    obtain ⟨hsettings, himage, hsnapshot, hall⟩ := h
    have hranges (b : Fin 12) (layout : Layout) (hb : (modifyAt s.settings.layouts a fun _ => r).get b = layout) :
        isFollowing layout.kind = true → layout.minimum ≤ layout.maximum := by
      rw [get_modifyAt] at hb
      split at hb
      · exact hb ▸ hrange
      · exact hb ▸ hsettings b
    refine ⟨fun b => hranges b _ rfl, himage, hsnapshot, fun b => ?_⟩
    show InRange ((modifyAt s.settings.layouts a fun _ => r).get b) ((modifyAt s.arches a (Arch.fresh r)).get b)
    rw [get_modifyAt, get_modifyAt]
    split
    · exact inRange_home hrange nofun rfl
    · exact hall b
  exact (startReturn_ranged a hfresh).of_channels (channels_reevaluate _ _)

theorem setArchRequest_ranged (l : Fin 4) (n : Nat) (record : LayoutArg) (h : CommandLaw s) :
    CommandLaw (setArchRequest l n record s).1 := by
  unfold setArchRequest
  split
  · exact h
  · exact h
  · exact h
  · split
    next hok =>
      obtain ⟨hfields, -⟩ := Bool.and_eq_true_iff.mp hok
      exact setArchRecord_ranged _ _ hfields h
    · exact h

theorem takeOut_ranged (a : Fin 12) (h : CommandLaw s) : CommandLaw (takeOut a s) := by
  have hout := modifyArch_ranged_of_stance a (fun x => { x with outOfService := true }) (fun _ => rfl) h
  unfold takeOut
  dsimp only
  split
  · split
    · exact startReturn_ranged a hout
    · exact (startReturn_ranged a hout).of_channels (by simp)
  · exact hout

theorem setArchServiceRequest_ranged (l : Fin 4) (n setting : Nat) (h : CommandLaw s) :
    CommandLaw (setArchServiceRequest l n setting s).1 := by
  have changed (a : Fin 12) (out : Bool) : CommandLaw (if out then takeOut a s else putBack a s) := by
    cases out with
    | true => exact takeOut_ranged a h
    | false => exact modifyArch_ranged_of_stance a _ (fun _ => rfl) h
  unfold setArchServiceRequest setService
  split
  · exact h
  · exact h
  · exact h
  next a out _ _ _ =>
    dsimp only
    split
    · exact h
    · exact (changed a out).of_channels (by simp)

theorem clearJamRequest_ranged (l : Fin 4) (n : Nat) (h : CommandLaw s) : CommandLaw (clearJamRequest l n s).1 := by
  unfold clearJamRequest
  split
  · exact h
  · exact h
  next a _ _ =>
    have hparked : CommandLaw (modifyArch a (fun x => { x with phase := .parked }) s) :=
      modifyArch_ranged a _ (fun hx => hx.stopped nofun rfl) h
    exact hparked.of_channels (by simp [clearJam])

/-! ## The requests of the tunnel and of the store -/

theorem haltRequest_ranged (l : Fin 4) (h : CommandLaw s) : CommandLaw (haltRequest l s).1 := by
  unfold haltRequest
  split
  · exact h
  · exact takeCause_ranged _ h

theorem pullCarRequest_ranged (l : Fin 4) (n : Nat) (h : CommandLaw s) : CommandLaw (pullCarRequest l n s).1 := by
  unfold pullCarRequest
  split
  · exact h
  · exact h
  next c _ _ => exact (removeCar_ranged c .pulled h).of_channels (by simp)

theorem clearTunnel_ranged (h : CommandLaw s) : CommandLaw (clearTunnel s) := by
  have hcleared : CommandLaw (allArches.foldl clearArch (removeAll .cleared s)) :=
    List.foldlRecOn (motive := CommandLaw) allArches _ (removeAll_ranged _ h) fun _ ht a _ => clearArch_ranged a ht
  unfold clearTunnel
  dsimp only
  split
  · exact hcleared.of_channels (by simp)
  · exact hcleared.of_channels (channels_endHalt _ _)

theorem clearTunnelRequest_ranged (l : Fin 4) (h : CommandLaw s) : CommandLaw (clearTunnelRequest l s).1 := by
  unfold clearTunnelRequest
  split
  · exact h
  · dsimp only
    exact clearTunnel_ranged h

/-- The snapshot of a save is in range as the settings in force are (R188). -/
theorem saveStoreRequest_ranged (l : Fin 4) (h : CommandLaw s) : CommandLaw (saveStoreRequest l s).1 := by
  unfold saveStoreRequest
  split
  · exact h
  · obtain ⟨hsettings, -, -, hall⟩ := h
    refine ⟨hsettings, nofun, fun k hk => ?_, hall⟩
    obtain rfl := Option.some.inj hk
    exact hsettings

/-! ## Requests that leave the channels alone -/

theorem channels_confirmRequest (l : Fin 4) (n tender : Nat) (s : State) :
    channels (confirmRequest l n tender s).1 = channels s := by
  unfold confirmRequest
  repeat' split
  all_goals simp

theorem channels_voidRequest (l : Fin 4) (n : Nat) (s : State) : channels (voidRequest l n s).1 = channels s := by
  unfold voidRequest voidTicket
  dsimp only
  repeat' split
  all_goals simp

theorem channels_requeueRequest (l : Fin 4) (n : Nat) (s : State) : channels (requeueRequest l n s).1 = channels s := by
  unfold requeueRequest requeueTicket
  split
  · rfl
  · rfl
  · simp
    rfl

theorem channels_openTunnelRequest (l : Fin 4) (s : State) : channels (openTunnelRequest l s).1 = channels s := by
  unfold openTunnelRequest openUnderHalt setResume
  repeat' split
  all_goals simp

theorem channels_closeTunnelRequest (l : Fin 4) (s : State) : channels (closeTunnelRequest l s).1 = channels s := by
  unfold closeTunnelRequest closeUnderHalt closeFromOpen setResume
  repeat' split
  all_goals simp

theorem channels_resumeTunnel (first second : Fin 4) (s : State) : channels (resumeTunnel first second s) = channels s := by
  unfold resumeTunnel
  simp only [channels_afterResume, channels_restartStep, channels_endHalt]
  rfl

theorem channels_confirmRestart (l : Fin 4) (s : State) : channels (confirmRestart l s).1 = channels s := by
  unfold confirmRestart
  split
  · rfl
  · split
    · rfl
    · split
      · exact channels_resumeTunnel _ _ s
      · rfl

theorem channels_restartRequest (l : Fin 4) (s : State) : channels (restartRequest l s).1 = channels s := by
  unfold restartRequest
  split
  · rfl
  · split
    · rfl
    · exact channels_confirmRestart l s
    all_goals rfl

theorem channels_setTestProfileRequest (l : Fin 4) (profile length first : Nat) (samples : List Sample) (s : State) :
    channels (setTestProfileRequest l profile length first samples s).1 = channels s := by
  unfold setTestProfileRequest takePiece
  dsimp only
  repeat' split
  all_goals rfl

theorem channels_closeoutRequest (l : Fin 4) (s : State) : channels (closeoutRequest l s).1 = channels s := by
  unfold closeoutRequest closeBank
  dsimp only
  repeat' split
  all_goals simp

theorem channels_releaseBankRequest (l : Fin 4) (bank : Nat) (s : State) :
    channels (releaseBankRequest l bank s).1 = channels s := by
  unfold releaseBankRequest releaseBank
  split <;> simp

theorem channels_readJournalRequest (l : Fin 4) (bank : Nat) (first : Option Nat) (s : State) :
    channels (readJournalRequest l bank first s).1 = channels s := by
  unfold readJournalRequest
  repeat' split
  all_goals simp

theorem channels_rehearseRequest (l : Fin 4) (profile plan : Nat) (traced : Option Nat) (s : State) :
    channels (rehearseRequest l profile plan traced s).1 = channels s := by
  unfold rehearseRequest beginRehearsal createPhantom
  split
  · rfl
  · rfl
  · simp
    rfl

theorem channels_quoteRequest (l : Fin 4) (plan : Nat) (extras : List Nat) (slot lane : Option Nat) (s : State) :
    channels (quoteRequest l plan extras slot lane s).1 = channels s := by
  unfold quoteRequest
  split <;> rfl

theorem channels_cancelRequest (l : Fin 4) (n : Nat) (s : State) : channels (cancelRequest l n s).1 = channels s := by
  unfold cancelRequest
  split <;> rfl

theorem channels_lockRangeRequest (l : Fin 4) (first last : Nat) (s : State) :
    channels (lockRangeRequest l first last s).1 = channels s := by
  unfold lockRangeRequest
  split <;> rfl

theorem channels_setGaugeRequest (l : Fin 4) (gauge first : Nat) (values : List Nat) (s : State) :
    channels (setGaugeRequest l gauge first values s).1 = channels s := by
  unfold setGaugeRequest
  split <;> rfl

theorem channels_setSiteRequest (l : Fin 4) (p : Site) (s : State) : channels (setSiteRequest l p s).1 = channels s := by
  unfold setSiteRequest
  split <;> rfl

theorem channels_setAccessRequest (l : Fin 4) (target : Nat) (e : Access) (s : State) :
    channels (setAccessRequest l target e s).1 = channels s := by
  unfold setAccessRequest
  split <;> rfl

theorem channels_editPlanRequest (l : Fin 4) (n : Nat) (p : Plan) (s : State) :
    channels (editPlanRequest l n p s).1 = channels s := by
  unfold editPlanRequest
  split
  · rfl
  · exact channels_reevaluate _ _

theorem channels_editExtraRequest (l : Fin 4) (n : Nat) (e : Extra) (s : State) :
    channels (editExtraRequest l n e s).1 = channels s := by
  unfold editExtraRequest
  split
  · rfl
  · exact channels_reevaluate _ _

theorem channels_editDiscountRequest (l : Fin 4) (n : Nat) (r : DiscountArg) (s : State) :
    channels (editDiscountRequest l n r s).1 = channels s := by
  unfold editDiscountRequest
  split
  · rfl
  · rfl
  · exact channels_reevaluate _ _

theorem channels_editServiceRequest (l : Fin 4) (n : Nat) (name : List Byte) (s : State) :
    channels (editServiceRequest l n name s).1 = channels s := by
  unfold editServiceRequest
  split
  · rfl
  · exact channels_reevaluate _ _

/-! ## Every request -/

theorem runRequest_ranged (i : Instr) (s : State) (h : CommandLaw s) : CommandLaw (runRequest i s).1 := by
  cases i with
  | quote => exact h.of_channels (channels_quoteRequest ..)
  | confirm => exact h.of_channels (channels_confirmRequest ..)
  | cancel => exact h.of_channels (channels_cancelRequest ..)
  | voidTicket => exact h.of_channels (channels_voidRequest ..)
  | requeue => exact h.of_channels (channels_requeueRequest ..)
  | halt l => exact haltRequest_ranged l h
  | pullCar l n => exact pullCarRequest_ranged l n h
  | openTunnel => exact h.of_channels (channels_openTunnelRequest ..)
  | closeTunnel => exact h.of_channels (channels_closeTunnelRequest ..)
  | restart => exact h.of_channels (channels_restartRequest ..)
  | clearTunnel l => exact clearTunnelRequest_ranged l h
  | setArchService l n setting => exact setArchServiceRequest_ranged l n setting h
  | clearJam l n => exact clearJamRequest_ranged l n h
  | editPlan => exact h.of_channels (channels_editPlanRequest ..)
  | editExtra => exact h.of_channels (channels_editExtraRequest ..)
  | editDiscount => exact h.of_channels (channels_editDiscountRequest ..)
  | editService => exact h.of_channels (channels_editServiceRequest ..)
  | lockRange => exact h.of_channels (channels_lockRangeRequest ..)
  | setArch l n record => exact setArchRequest_ranged l n record h
  | setGauge => exact h.of_channels (channels_setGaugeRequest ..)
  | setSite => exact h.of_channels (channels_setSiteRequest ..)
  | setTestProfile => exact h.of_channels (channels_setTestProfileRequest ..)
  | setAccess => exact h.of_channels (channels_setAccessRequest ..)
  | saveStore l => exact saveStoreRequest_ranged l h
  | closeout => exact h.of_channels (channels_closeoutRequest ..)
  | readJournal => exact h.of_channels (channels_readJournalRequest ..)
  | releaseBank => exact h.of_channels (channels_releaseBankRequest ..)
  | rehearse => exact h.of_channels (channels_rehearseRequest ..)
  | _ => exact h

/-- The command law is kept by every frame and byte, every request and every cause. -/
theorem commandLaw_lasting : Lasting CommandLaw where
  frames _ _ _ _ _ h := h
  request := runRequest_ranged
  cause c _ h := takeCause_ranged c h

/-! ## Every command -/

theorem exec_ranged (i : Instr) (h : CommandLaw s) : LeadsTo CommandLaw (exec i s) := by
  have H := commandLaw_lasting
  cases hl : requestLink i with
  | some l => exact H.ofRequest i l hl h
  | none =>
    cases i with
    | receiveByte l b => exact H.event _ h (H.received l b h)
    | interByteTimeout l => exact H.event _ h (H.of_link l _ h)
    | transmitByteSent l => exact H.event _ h (H.of_link l _ h)
    | responsePlaced l => exact H.event _ h (H.waitingPlaced l h)
    | pendingFrameTaken l => exact H.event _ h (H.pendingTaken l h)
    | encoderLineChange phase g order => exact H.event _ h (encoderChange_ranged phase g order h)
    | conveyorStall => exact H.event _ h (stallExpires_ranged h)
    | loadCodeReceived a code => exact H.event _ h (modifyArch_ranged_of_stance a _ (fun _ => rfl) h)
    | homeSwitchChange a closed => exact H.event _ h (homeSwitch_ranged a closed h)
    | returnTimeout a => exact H.event _ h (returnExpires_ranged a h)
    | entryTreadleClosing => exact H.event _ h (entryClosing_ranged h)
    | treadleOpening t => exact H.event _ h (h.of_channels (channels_treadleOpens t s))
    | exitTreadleClosing => exact H.event _ h (exitClosing_ranged h)
    | presenceLoopChange lane asserted => exact H.event _ h (h.of_channels (channels_arbitrate _))
    | callLapse => exact H.event _ h (h.of_channels (channels_callLapses s))
    | graceExpiry => exact H.event _ h (h.of_channels (channels_graceExpires s))
    | holdExpiry n => exact H.event _ h (h.of_channels (channels_holdExpires n s))
    | estopLineChange asserted => exact H.event _ h (estopChange_ranged asserted h)
    | restartWindowExpiry => exact H.event _ h (h.of_channels (channels_windowExpires s))
    | saveStageBegin => exact H.event _ h (h.of_channels (channels_saveStageBegins s))
    | saveReport passed => exact H.event _ h (saveReported_ranged passed h)
    | saveTimeout verified => exact H.event _ h (saveExpires_ranged verified h)
    | rollerPulseEnd => exact H.event _ h (h.of_channels (channels_pulseEnds s))
    | powerOnReset lines verified => exact H.supplyEvent _ (powerOn_ranged lines verified h)
    | lineReset lines verified => exact H.event _ h (resetLine_ranged lines verified h)
    | lossOfSupply verified => exact H.event _ h (loseSupply_ranged verified h)
    | _ => cases hl

/-- Settles O14: a step is 10 ms passing or one command, and each sends an arch home, moves it within its range or leaves it. -/
theorem archCommandsStayInRange : Obligations.ArchCommandsStayInRange := by
  intro s t h hstep
  unfold step at hstep
  split at hstep
  · obtain rfl := Host.Outcome.next.inj hstep
    exact idle_ranged h
  next i rest _ => exact exec_ranged i (commandLaw_lasting.of_pending rest h) t hstep

end Sys2Proof.Machine
end

section
/-! The lines of an arch (R45, R48): load codes, home switches and return timeouts. -/

namespace Sys2Proof.Machine

variable {s t : State}

/-! ## One arch changed -/

theorem modifyAt_congr {α : Type} {n : Nat} (v : Vector α n) (i : Fin n) {f g : α → α} (h : f (v.get i) = g (v.get i)) :
    modifyAt v i f = modifyAt v i g := by
  unfold modifyAt
  rw [h]

theorem modifyArch_congr (a : Fin 12) {f g : Arch → Arch} (h : f (archAt a s) = g (archAt a s)) :
    modifyArch a f s = modifyArch a g s := by
  unfold modifyArch
  rw [modifyAt_congr s.arches a h]

/-- An event in a settled part that raises no cause of its own ends in what it did. -/
theorem event_ends_in {f : State → State} (h : Settled s) (he : f s = t) (ht : t.raised = s.raised) : EndsIn s (event f s) t := by
  obtain ⟨hpowered, hraised, -⟩ := h
  subst he
  exact event_ends f s hpowered (ht.trans hraised)

/-! ## The home switch and the return timer (R48) -/

/-- A home switch that closes on a RETURNING arch ends its return. -/
theorem homeSwitch_of_returning {a : Fin 12} (h : (archAt a s).phase = .returning) :
    homeSwitch a true s = modifyArch a (fun x => { x with homeClosed := true, phase := .parked, timer := none }) s :=
  modifyArch_congr a (by simp [Arch.homeSwitch, h])

/-- Any other change of a home switch changes the reading alone. -/
theorem homeSwitch_of_other {a : Fin 12} {closed : Bool} (h : closed = false ∨ (archAt a s).phase ≠ .returning) :
    homeSwitch a closed s = modifyArch a (fun x => { x with homeClosed := closed }) s := by
  refine modifyArch_congr a (if_neg fun hc => ?_)
  obtain ⟨hclosed, hphase⟩ := Bool.and_eq_true_iff.mp hc
  exact h.elim (fun hopen => by simp [hopen] at hclosed) fun hother => hother (beq_iff_eq.mp hphase)

theorem returnExpires_of_running {a : Fin 12} (h : (archAt a s).phase ≠ .returning ∨ (archAt a s).timer ≠ some 0) :
    returnExpires a s = s := by
  refine if_neg ?_
  rintro ⟨hphase, hout⟩
  exact h.elim (· hphase) (· ((ranOut_iff _).mp hout))

theorem returnExpires_of_ranOut {a : Fin 12} (hphase : (archAt a s).phase = .returning) (hout : (archAt a s).timer = some 0) :
    returnExpires a s = jam a s :=
  if_pos ⟨hphase, (ranOut_iff _).mpr hout⟩

/-- A jam takes its cause at once and raises none. -/
theorem jam_inert (a : Fin 12) (s : State) : Inert s (jam a s) :=
  (((modifyArch_inert s a _).trans (takeCause_inert _ (.archJam a))).trans (archNotice_inert _ .jam a)).trans
    (reevaluate_inert _ .arch)

/-! ## The statement -/

/-- Settles O37: a load code stands, a closing home switch ends a return, and a return timer that has run out jams the arch. -/
theorem archLinesAndReturnTimeout : Obligations.ArchLinesAndReturnTimeout := by
  intro a s h
  refine ⟨fun code => ?_, fun hphase => ?_, fun hphase => ?_, ?_, fun hrunning => ?_, fun hphase hout => ?_⟩
  · exact event_ends_in (f := loadCode a code) h rfl rfl
  · exact event_ends_in (f := homeSwitch a true) h (homeSwitch_of_returning hphase) rfl
  · exact event_ends_in (f := homeSwitch a true) h (homeSwitch_of_other (.inr hphase)) rfl
  · exact event_ends_in (f := homeSwitch a false) h (homeSwitch_of_other (.inl rfl)) rfl
  · exact event_ends_in (f := returnExpires a) h (returnExpires_of_running hrunning) rfl
  · exact event_ends_in (f := returnExpires a) h (returnExpires_of_ranOut hphase hout) (jam_inert a s).raised

end Sys2Proof.Machine
end

section
/-! The requests on an arch: SET_ARCH_SERVICE (R49), CLEAR_JAM (R51) and SET_ARCH (R33 to R35). -/

namespace Sys2Proof.Machine

variable {l : Fin 4} {s : State}

theorem archOf_eq_none {n : Nat} (h : 12 ≤ n) : archOf n = none := dif_neg (not_lt.mpr h)

theorem archOf_val (a : Fin 12) : archOf a.val = some a := dif_pos a.isLt

/-! ## SET_ARCH_SERVICE (R49) -/

theorem settingOf_eq_none {setting : Nat} (hout : setting ≠ 1) (hin : setting ≠ 2) : settingOf setting = none := by
  unfold settingOf
  split
  · exact absurd rfl hout
  · exact absurd rfl hin
  · rfl

theorem setArchServiceTests_of_denied (n setting : Nat) (hp : permitted l .operate s = false) :
    setArchServiceTests l n setting s = some .denied := by
  simp [setArchServiceTests, firstFailed, hp]

theorem setArchServiceTests_of_unknown {n : Nat} (setting : Nat) (hp : permitted l .operate s = true) (h : 12 ≤ n) :
    setArchServiceTests l n setting s = some .unknown := by
  simp [setArchServiceTests, firstFailed, hp, archOf_eq_none h]

/-- OPERATE is held and the arch exists: the arch must be used and the setting one of the two (R49). -/
theorem setArchServiceTests_eq (a : Fin 12) (setting : Nat) (hp : permitted l .operate s = true) :
    setArchServiceTests l a.val setting s =
      if (layoutAt a s).kind = .unused ∨ settingOf setting = none then some .invalid else none := by
  by_cases hk : (layoutAt a s).kind = .unused <;> simp [setArchServiceTests, firstFailed, hp, archOf_val, hk]

theorem setArchService_refused {n setting : Nat} {st : Status} (h : Ready l s)
    (ht : setArchServiceTests l n setting s = some st) : Refused l 0x28 s (exec (.setArchService l n setting) s) st :=
  request_refused (i := .setArchService l n setting) h (run := setArchServiceRequest l n setting)
    (by rw [setArchServiceRequest, ht])

theorem takeOut_of_idle {a : Fin 12} (hf : (archAt a s).phase ≠ .following) (hs : (archAt a s).phase ≠ .spraying) :
    takeOut a s = modifyArch a (fun x => { x with outOfService := true }) s := by
  simp [takeOut, hf, hs]

theorem takeOut_of_engaged {a : Fin 12} {n : Nat} (hw : (archAt a s).phase = .following ∨ (archAt a s).phase = .spraying)
    (he : (archAt a s).engaged = some n) :
    takeOut a s = handStatus a n (setStatus n a .skipped
      (startReturn a (modifyArch a (fun x => { x with outOfService := true }) s))) := by
  have hwork : ((archAt a s).phase == .following || (archAt a s).phase == .spraying) = true := by simpa using hw
  simp only [takeOut, hwork, he, if_true]

theorem takeOut_inert (a : Fin 12) (s : State) : Inert s (takeOut a s) := by
  have hout : Inert s (modifyArch a (fun x => { x with outOfService := true }) s) := modifyArch_inert s a _
  unfold takeOut
  dsimp only
  split
  · split
    · exact hout.trans (startReturn_inert _ a)
    · exact ((hout.trans (startReturn_inert _ a)).trans (setStatus_inert _ _ _ _)).trans (handStatus_inert _ _ _)
  · exact hout

theorem setService_inert (a : Fin 12) (out : Bool) (s : State) : Inert s (setService a out s) := by
  unfold setService
  split
  · exact .refl s
  · refine Inert.trans ?_ ((archNotice_inert _ .operator a).trans (reevaluate_inert _ .arch))
    split
    · exact takeOut_inert a s
    · exact modifyArch_inert s a _

/-- A setting of a used arch is answered OK with what it does to the arch. -/
theorem setArchService_taken {a : Fin 12} {setting : Nat} {out : Bool} (h : Ready l s) (hp : permitted l .operate s = true)
    (hk : (layoutAt a s).kind ≠ .unused) (hset : settingOf setting = some out) :
    Answered l 0x28 s (exec (.setArchService l a.val setting) s) .ok [] (setService a out s) := by
  have htests : setArchServiceTests l a.val setting s = none := by simp [setArchServiceTests_eq a setting hp, hk, hset]
  exact request_taken (i := .setArchService l a.val setting) h (run := setArchServiceRequest l a.val setting)
    (by rw [setArchServiceRequest, htests, archOf_val, hset]) (setService_inert a out s).raised

theorem setService_of_same {a : Fin 12} {out : Bool} (h : (archAt a s).outOfService = out) : setService a out s = s := if_pos h

theorem setService_in {a : Fin 12} (h : (archAt a s).outOfService = true) :
    setService a false s = reevaluate .arch (archNotice .operator a
      (modifyArch a (fun x => { x with outOfService := false, trips := 0 }) s)) :=
  if_neg (by simp [h])

theorem setService_out {a : Fin 12} (h : (archAt a s).outOfService = false) :
    setService a true s = reevaluate .arch (archNotice .operator a (takeOut a s)) :=
  if_neg (by simp [h])

/-! ## CLEAR_JAM (R51) -/

theorem clearJamTests_of_denied (n : Nat) (hp : permitted l .operate s = false) : clearJamTests l n s = some .denied := by
  simp [clearJamTests, firstFailed, hp]

theorem clearJamTests_of_unknown {n : Nat} (hp : permitted l .operate s = true) (h : 12 ≤ n) :
    clearJamTests l n s = some .unknown := by
  simp [clearJamTests, firstFailed, hp, archOf_eq_none h]

/-- OPERATE is held and the arch exists: the arch must be JAMMED and its home switch read closed (R51). -/
theorem clearJamTests_eq (a : Fin 12) (hp : permitted l .operate s = true) :
    clearJamTests l a.val s =
      if (archAt a s).phase ≠ .jammed then some .state
      else if (archAt a s).homeClosed = false then some .notReady
      else none := by
  simp [clearJamTests, firstFailed, hp, archOf_val]

theorem clearJam_refused {n : Nat} {st : Status} (h : Ready l s) (ht : clearJamTests l n s = some st) :
    Refused l 0x29 s (exec (.clearJam l n) s) st :=
  request_refused (i := .clearJam l n) h (run := clearJamRequest l n) (by rw [clearJamRequest, ht])

theorem clearJam_inert (a : Fin 12) (s : State) : Inert s (clearJam a s) :=
  ((modifyArch_inert s a _).trans (archNotice_inert _ .cleared a)).trans (reevaluate_inert _ .arch)

/-! ## SET_ARCH (R33 to R35) -/

theorem setArchTests_of_denied (n : Nat) (hp : permitted l .configure s = false) : setArchTests l n s = some .denied := by
  simp [setArchTests, firstFailed, hp]

theorem setArchTests_of_unknown {n : Nat} (hp : permitted l .configure s = true) (h : 12 ≤ n) :
    setArchTests l n s = some .unknown := by
  simp [setArchTests, firstFailed, hp, archOf_eq_none h]

theorem setArchTests_eq (a : Fin 12) (hp : permitted l .configure s = true) :
    setArchTests l a.val s = if s.supervisor.tunnel ≠ .closed then some .state else none := by
  simp [setArchTests, firstFailed, hp, archOf_val]

theorem setArch_refused {n : Nat} {arg : LayoutArg} {st : Status} (h : Ready l s)
    (he : setArchRequest l n arg s = (s, refuse st)) : Refused l 0x38 s (exec (.setArch l n arg) s) st :=
  request_refused (i := .setArch l n arg) h (run := setArchRequest l n arg) he

theorem setArchRequest_of_failed {n : Nat} {arg : LayoutArg} {st : Status} (ht : setArchTests l n s = some st) :
    setArchRequest l n arg s = (s, refuse st) := by
  rw [setArchRequest, ht]

/-- A record whose codes name no value is refused (R195). -/
theorem setArchRequest_of_unnamed {a : Fin 12} {arg : LayoutArg} (ht : setArchTests l a.val s = none) (hr : layoutOf arg = none) :
    setArchRequest l a.val arg s = (s, refuse .invalid) := by
  rw [setArchRequest, ht, archOf_val, hr]

theorem setArchRequest_of_named {a : Fin 12} {arg : LayoutArg} {r : Layout} (ht : setArchTests l a.val s = none)
    (hr : layoutOf arg = some r) : setArchRequest l a.val arg s =
      if setArchRecordOk a r s then (setArchRecord a r s, { status := .ok }) else (s, refuse .invalid) := by
  rw [setArchRequest, ht, archOf_val, hr]

/-- An arch set afresh under a record: no entries, no car, counts 0, commanded home, and RETURNING or PARKED (R35, R48). -/
def Arch.afresh (r : Layout) (site : Site) (returns : Bool) (x : Arch) : Arch :=
  { x with
    phase := if returns then .returning else .parked
    command := r.maximum
    engaged := none
    events := []
    overOnce := false
    trips := 0
    outOfService := r.initiallyOut
    timer := if returns then some (site.returnTimeout * 100) else none }

/-- A fresh arch returns if it follows and its home switch does not read closed (R35). -/
theorem goHome_fresh (r : Layout) (site : Site) (x : Arch) :
    (x.fresh r).goHome r site = x.afresh r site (isFollowing r.kind && !x.homeClosed) := by
  cases hf : isFollowing r.kind <;> cases hh : x.homeClosed <;>
    simp [Arch.goHome, Arch.fresh, Arch.afresh, hf, hh, fullReturn, unitsPerSecond]

theorem modifyAt_modifyAt {α : Type} {n : Nat} (v : Vector α n) (i : Fin n) (f g : α → α) :
    modifyAt (modifyAt v i f) i g = modifyAt v i fun x => g (f x) := by
  simp [modifyAt, get_set_same]

/-- The record is in force, the store dirty, a layout present, and the arch starts afresh from home (R35). -/
theorem setArchRecord_eq (a : Fin 12) (r : Layout) (s : State) :
    setArchRecord a r s = reevaluate .arch { s with
      settings.layouts := modifyAt s.settings.layouts a fun _ => r
      store.layoutPresent := true
      store.dirty := true
      arches := modifyAt s.arches a (Arch.afresh r s.settings.site (isFollowing r.kind && !(archAt a s).homeClosed)) } := by
  have hlayout : (modifyAt s.settings.layouts a fun _ => r).get a = r := get_modifyAt_same _ a _
  have harch : modifyAt s.arches a (fun x => (x.fresh r).goHome r s.settings.site) = modifyAt s.arches a _ :=
    modifyAt_congr s.arches a (goHome_fresh r s.settings.site (archAt a s))
  simp only [setArchRecord, startReturn, modifyArch, layoutAt, markDirty, modifyAt_modifyAt, hlayout, harch]

/-! ## The statements -/

/-- Settles O34: the tests and effects of SET_ARCH_SERVICE and CLEAR_JAM, and what an arch notice carries. -/
theorem archServiceAndClearJam : Obligations.ArchServiceAndClearJam := by
  refine ⟨fun _ _ _ => rfl, ?_, ?_⟩
  · intro l n setting s h o taken
    refine ⟨fun hp => setArchService_refused h (setArchServiceTests_of_denied n setting hp), fun hp =>
      ⟨fun hn => setArchService_refused h (setArchServiceTests_of_unknown setting hp hn), ?_⟩⟩
    rintro a rfl
    have invalid (hbad : (layoutAt a s).kind = .unused ∨ settingOf setting = none) : Refused l 0x28 s o .invalid :=
      setArchService_refused h ((setArchServiceTests_eq a setting hp).trans (if_pos hbad))
    refine ⟨fun hk => invalid (.inl hk), fun hk => ?_⟩
    have answered {out : Bool} {u : State} (hset : settingOf setting = some out) (he : setService a out s = u) :
        Answered l 0x28 s o .ok [] u := he ▸ setArchService_taken h hp hk hset
    refine ⟨fun hout hin => invalid (.inr (settingOf_eq_none hout hin)), ?_, ?_, ?_, ?_⟩
    · rintro rfl hflag
      exact answered rfl (setService_of_same hflag)
    · rintro rfl hflag
      exact answered rfl (setService_of_same hflag)
    · rintro rfl hflag
      exact answered rfl (setService_in hflag)
    · rintro rfl hflag
      refine ⟨fun hf hs => answered rfl ?_, fun car hw he => answered rfl ?_⟩
      · rw [setService_out hflag, takeOut_of_idle hf hs]
      · rw [setService_out hflag, takeOut_of_engaged hw he]
  · intro l n s h o
    refine ⟨fun hp => clearJam_refused h (clearJamTests_of_denied n hp), fun hp =>
      ⟨fun hn => clearJam_refused h (clearJamTests_of_unknown hp hn), ?_⟩⟩
    rintro a rfl
    have htests := clearJamTests_eq a hp
    refine ⟨fun hj => clearJam_refused h (htests.trans (if_pos hj)), fun hj hhome => clearJam_refused h ?_, fun hj hhome => ?_⟩
    · simp [htests, hj, hhome]
    · have hnone : clearJamTests l a.val s = none := by simp [htests, hj, hhome]
      exact request_taken (i := .clearJam l a.val) h (run := clearJamRequest l a.val)
        (by rw [clearJamRequest, hnone, archOf_val]; rfl) (clearJam_inert a s).raised

/-- Settles O35: the ranges of a record, the layout checks, and SET_ARCH's refusals and effect. -/
theorem setArchStartsTheArchAfresh : Obligations.SetArchStartsTheArchAfresh := by
  refine ⟨layoutFieldsOk_iff, fun layouts site => ?_, ?_⟩
  · rw [layoutChecks_iff]
    exact forall_congr' fun a => archLayoutOk_iff site (layouts.get a)
  · intro l n arg s h o
    refine ⟨fun hp => setArch_refused h (setArchRequest_of_failed (setArchTests_of_denied n hp)), fun hp =>
      ⟨fun hn => setArch_refused h (setArchRequest_of_failed (setArchTests_of_unknown hp hn)), ?_⟩⟩
    rintro a rfl
    have htests := setArchTests_eq a hp
    refine ⟨fun hs => setArch_refused h (setArchRequest_of_failed (htests.trans (if_pos hs))), fun hs => ?_⟩
    rw [if_neg (not_not.mpr hs)] at htests
    refine ⟨fun hr => setArch_refused h (setArchRequest_of_unnamed htests hr), ?_⟩
    intro r hr layouts
    have hnamed := setArchRequest_of_named htests hr
    refine ⟨fun hbad => setArch_refused h (hnamed.trans (if_neg ?_)), fun hfields hchecks => ?_⟩
    · rw [setArchRecordOk, Bool.and_eq_true]
      rintro ⟨hfields, hchecks⟩
      exact hbad.elim (by simp [hfields]) fun hfailed => Bool.false_ne_true (hfailed.symm.trans hchecks)
    · have hok : setArchRecordOk a r s = true := Bool.and_eq_true_iff.mpr ⟨hfields, hchecks⟩
      rw [if_pos hok, setArchRecord_eq] at hnamed
      exact request_taken (i := .setArch l a.val arg) h (run := setArchRequest l a.val arg) hnamed (reevaluate_inert _ .arch).raised

end Sys2Proof.Machine
end

section
/-! The load check and the trip (R45 to R47): what a trip leaves of the arch, of its car and of the causes raised. -/

namespace Sys2Proof.Machine

variable {a : Fin 12} {n : Nat} {s : State}

/-! ## What lies beside the arch -/

/-- Re-evaluating availability touches availability and the outbox alone (R105). -/
theorem reevaluate_frame (r : AvailabilityReason) (s : State) : ∃ planAvailable extraAvailable outbox,
    reevaluate r s = { s with
      sales.planAvailable := planAvailable
      sales.extraAvailable := extraAvailable
      outbox := outbox } := by
  have noticed {α : Type} (body : α → List Byte) (l : List α) (t : State) : ∃ outbox,
      l.foldl (fun u i => notify .availability (body i) u) t = { t with outbox := outbox } := by
    induction l generalizing t with
    | nil => exact ⟨t.outbox, rfl⟩
    | cons i rest ih =>
      obtain ⟨outbox, he⟩ := ih (notify .availability (body i) t)
      exact ⟨outbox, by rw [List.foldl_cons, he]; rfl⟩
  unfold reevaluate
  dsimp only
  obtain ⟨plans, hplans⟩ := noticed (planNotice r (setAvailability s))
    ((List.finRange 24).filter fun i => (setAvailability s).sales.planAvailable.get i != s.sales.planAvailable.get i)
    (setAvailability s)
  obtain ⟨extras, hextras⟩ := noticed (extraNotice r (setAvailability s))
    ((List.finRange 8).filter fun i => (setAvailability s).sales.extraAvailable.get i != s.sales.extraAvailable.get i)
    { setAvailability s with outbox := plans }
  exact ⟨_, _, extras, by rw [hplans, hextras]; rfl⟩

theorem archAt_reevaluate (b : Fin 12) (r : AvailabilityReason) (s : State) : archAt b (reevaluate r s) = archAt b s := by
  obtain ⟨_, _, _, he⟩ := reevaluate_frame r s
  rw [he]
  rfl

theorem findCar_reevaluate (m : Nat) (r : AvailabilityReason) (s : State) : findCar m (reevaluate r s) = findCar m s := by
  obtain ⟨_, _, _, he⟩ := reevaluate_frame r s
  rw [he]
  rfl

/-- What the Pace Selector leaves of every record when a status is handed to it (R69, R70, R72). -/
theorem map_findCar_handStatus {β : Type} (k : Car → β) (happly : ∀ m c, k (c.apply m) = k c)
    (hdomain : ∀ c : Car, k { c with inDomain := false } = k c) (a : Fin 12) (n : Nat) (s : State) :
    (findCar n (handStatus a n s)).map k = (findCar n s).map k := by
  unfold handStatus statusSettled
  split
  · split
    · rfl
    · split
      · rw [findCar_recomputeClass, findCar_modifyCar n (fun c => { c with inDomain := false }) (fun _ => rfl), Option.map_map,
          Option.map_map]
        exact Option.map_congr fun c _ => (happly _ _).trans (hdomain c)
      · rfl
  · rfl

/-- Going home sets the over count to 0 and leaves the out-of-service flag (R48, R45). -/
theorem goHome_counts (r : Layout) (site : Site) (x : Arch) :
    (x.goHome r site).overOnce = false ∧ (x.goHome r site).outOfService = x.outOfService := by
  unfold Arch.goHome
  dsimp only
  repeat' split
  all_goals exact ⟨rfl, rfl⟩

/-- A tag is kept unless the list holds it, while there is room, and else counted (R78). -/
theorem addTag_cases (t : Tag) (c : Car) :
    (t ∈ c.tags → (c.addTag t).tags = c.tags ∧ (c.addTag t).tagsLost = c.tagsLost) ∧
    (t ∉ c.tags → c.tags.length < 4 → (c.addTag t).tags = c.tags ++ [t] ∧ (c.addTag t).tagsLost = c.tagsLost) ∧
    (t ∉ c.tags → 4 ≤ c.tags.length → (c.addTag t).tags = c.tags ∧ (c.addTag t).tagsLost = c.tagsLost + 1) := by
  refine ⟨fun h => ?_, fun h hroom => ?_, fun h hfull => ?_⟩
  · simp [Car.addTag, h]
  · simp [Car.addTag, h, maxTags, hroom]
  · simp [Car.addTag, h, maxTags, not_lt.mpr hfull]

/-! ## The load check (R45) -/

theorem loadCheck_of_idle (h : s.supervisor.tunnel = .rehearsal ∨ (archAt a s).phase ≠ .following) : loadCheck a s = s := by
  have hskip : ((archAt a s).phase != .following || s.supervisor.tunnel == .rehearsal) = true := by
    simpa [or_comm] using h
  unfold loadCheck
  dsimp only
  split
  · rfl
  · exact if_pos hskip

/-- The arch after its load code has been read (R45). -/
def loaded (a : Fin 12) (isOver : Bool) (s : State) : State :=
  modifyArch a (fun x => { x with loadRead := x.loadLine, overOnce := isOver }) s

/-- A FOLLOWING arch reads its load, and trips on a second over code (R45, R46). -/
theorem loadCheck_eq (he : (archAt a s).engaged = some n) (hphase : (archAt a s).phase = .following)
    (ht : s.supervisor.tunnel ≠ .rehearsal) :
    loadCheck a s =
      if (layoutAt a s).tripThreshold ≤ (archAt a s).loadLine then
        if (archAt a s).overOnce then trip a n (loaded a true s) else loaded a true s
      else loaded a false s := by
  by_cases hover : (layoutAt a s).tripThreshold ≤ (archAt a s).loadLine
  · simp [loadCheck, he, hphase, ht, hover, loaded]
  · simp [loadCheck, he, hphase, ht, hover, loaded]

/-! ## A trip (R46) -/

/-- A trip up to its trip count: the arch goes home, its car is SKIPPED and tagged, and the count rises (R46). -/
def tripCounted (a : Fin 12) (n : Nat) (s : State) : State :=
  modifyArch a (fun x => { x with trips := min (x.trips + 1) 3 })
    (handStatus a n (tagCar n (.archTrip a) (setStatus n a .skipped (startReturn a s))))

/-- A trip up to its cause, which policy HALT raises (R46). -/
def tripHanded (a : Fin 12) (n : Nat) (s : State) : State :=
  if (layoutAt a s).policy = .halt then raise (.loadTrip a n) (tripCounted a n s) else tripCounted a n s

theorem tripCounted_inert (a : Fin 12) (n : Nat) (s : State) : Inert s (tripCounted a n s) :=
  ((((startReturn_inert s a).trans (setStatus_inert _ n a .skipped)).trans (tagCar_inert _ n _)).trans
    (handStatus_inert _ a n)).trans (modifyArch_inert _ a _)

theorem trip_eq (a : Fin 12) (n : Nat) (s : State) : trip a n s = tripsOut a (tripHanded a n s) := by
  have hlayout : layoutAt a (tripCounted a n s) = layoutAt a s := by
    rw [layoutAt, (tripCounted_inert a n s).settings, layoutAt]
  unfold tripHanded
  rw [← hlayout]
  rfl

theorem archAt_tripHanded (a : Fin 12) (n : Nat) (s : State) :
    archAt a (tripHanded a n s) =
      { (archAt a s).goHome (layoutAt a s) s.settings.site with trips := min ((archAt a s).trips + 1) 3 } := by
  obtain ⟨-, -, htrips, -⟩ := goHome_frees (layoutAt a s) s.settings.site (archAt a s)
  have hcounted : archAt a (tripCounted a n s) =
      { (archAt a s).goHome (layoutAt a s) s.settings.site with trips := min ((archAt a s).trips + 1) 3 } := by
    rw [← htrips]
    simp [tripCounted, startReturn]
  unfold tripHanded
  split <;> exact hcounted

theorem tripHanded_raised (a : Fin 12) (n : Nat) (s : State) :
    (tripHanded a n s).raised = s.raised ++ if (layoutAt a s).policy = .halt then [.loadTrip a n] else [] := by
  have hkept := (tripCounted_inert a n s).raised
  unfold tripHanded
  split
  · rw [← hkept]
    rfl
  · rw [hkept, List.append_nil]

/-- The car of a trip is SKIPPED at the arch and takes the tag ARCH_TRIP (R46, R78). -/
theorem findCar_tripHanded (a : Fin 12) (n : Nat) (s : State) :
    (findCar n (tripHanded a n s)).map (fun c => (c.statuses, c.tags, c.tagsLost)) =
      (findCar n s).map fun c => (c.statuses.set a.val (some .skipped) a.isLt, (c.addTag (.archTrip a)).tags,
        (c.addTag (.archTrip a)).tagsLost) := by
  have hkept := map_findCar_handStatus (fun c => (c.statuses, c.tags, c.tagsLost))
    (fun m c => by unfold Car.apply; split <;> rfl) (fun _ => rfl) a n
    (tagCar n (.archTrip a) (setStatus n a .skipped (startReturn a s)))
  have hmodified : findCar n (tagCar n (.archTrip a) (setStatus n a .skipped (startReturn a s))) =
      (findCar n s).map fun c => Car.addTag (.archTrip a) { c with statuses := c.statuses.set a.val (some .skipped) a.isLt } := by
    rw [tagCar, findCar_modifyCar n _ (fun c => (addTag_sameMeasure _ c).number), findCar_setStatus, Option.map_map]
    rfl
  have htagged (c : Car) (v : Vector (Option ArchStatus) 12) :
      (Car.addTag (.archTrip a) { c with statuses := v }).statuses = v ∧
      (Car.addTag (.archTrip a) { c with statuses := v }).tags = (c.addTag (.archTrip a)).tags ∧
      (Car.addTag (.archTrip a) { c with statuses := v }).tagsLost = (c.addTag (.archTrip a)).tagsLost := by
    unfold Car.addTag
    dsimp only
    repeat' split
    all_goals exact ⟨rfl, rfl, rfl⟩
  have hcounted : findCar n (tripHanded a n s)
      = findCar n (handStatus a n (tagCar n (.archTrip a) (setStatus n a .skipped (startReturn a s)))) := by
    unfold tripHanded
    split <;> rfl
  rw [hcounted, hkept, hmodified, Option.map_map]
  refine Option.map_congr fun c _ => ?_
  obtain ⟨hstatuses, htags, hlost⟩ := htagged c (c.statuses.set a.val (some .skipped) a.isLt)
  exact Prod.ext hstatuses (Prod.ext htags hlost)

/-! ## The third trip in a row (R47) -/

/-- An arch whose trip count stands at 3 goes out of service, with its notice, unless it is out already. -/
theorem tripsOut_of_third (ht : (archAt a s).trips = 3) (ho : (archAt a s).outOfService = false) :
    tripsOut a s = reevaluate .arch (archNotice .trips a (modifyArch a (fun x => { x with outOfService := true }) s)) :=
  if_pos (by simp [ht, ho])

theorem tripsOut_of_other (h : (archAt a s).trips ≠ 3 ∨ (archAt a s).outOfService = true) : tripsOut a s = s :=
  if_neg (by simpa [← imp_iff_not_or] using h)

/-- Nothing of the arch but its flag changes when it goes out of service. -/
theorem archAt_tripsOut (a : Fin 12) (s : State) :
    archAt a (tripsOut a s) =
      { archAt a s with outOfService := (archAt a s).outOfService || decide ((archAt a s).trips = 3) } := by
  by_cases h : (archAt a s).trips = 3 ∧ (archAt a s).outOfService = false
  · obtain ⟨ht, ho⟩ := h
    rw [tripsOut_of_third ht ho, archAt_reevaluate]
    exact (archAt_modifyArch_same a _ s).trans (by simp [ht])
  · have hother : (archAt a s).trips ≠ 3 ∨ (archAt a s).outOfService = true := by
      simpa [← imp_iff_not_or] using h
    rw [tripsOut_of_other hother]
    rcases hother with ht | ho
    · simp [ht]
    · rw [ho, Bool.true_or, ← ho]

theorem tripsOut_keeps (a : Fin 12) (s : State) :
    (∀ m, findCar m (tripsOut a s) = findCar m s) ∧ (tripsOut a s).raised = s.raised := by
  unfold tripsOut
  split
  · refine ⟨fun m => findCar_reevaluate m _ _, (reevaluate_inert _ _).raised⟩
  · exact ⟨fun _ => rfl, rfl⟩

/-! ## A trip as a whole -/

theorem archAt_trip (a : Fin 12) (n : Nat) (s : State) :
    archAt a (trip a n s) = { (archAt a s).goHome (layoutAt a s) s.settings.site with
      trips := min ((archAt a s).trips + 1) 3
      outOfService := (archAt a s).outOfService || decide (2 ≤ (archAt a s).trips) } := by
  obtain ⟨-, hflag⟩ := goHome_counts (layoutAt a s) s.settings.site (archAt a s)
  have hthird : min ((archAt a s).trips + 1) 3 = 3 ↔ 2 ≤ (archAt a s).trips := by omega
  simp only [trip_eq, archAt_tripsOut, archAt_tripHanded, hflag, hthird]

/-- The car that is found after a trip was there before it, and is SKIPPED and tagged. -/
theorem found_trip {d : Car} (hd : findCar n (trip a n s) = some d) :
    ∃ c, findCar n s = some c ∧ d.statuses.get a = some .skipped ∧ d.tags = (c.addTag (.archTrip a)).tags ∧
      d.tagsLost = (c.addTag (.archTrip a)).tagsLost := by
  obtain ⟨hfound, -⟩ := tripsOut_keeps a (tripHanded a n s)
  rw [trip_eq, hfound] at hd
  have hcar := findCar_tripHanded a n s
  rw [hd, Option.map_some] at hcar
  obtain ⟨c, hc, he⟩ := Option.map_eq_some_iff.mp hcar.symm
  obtain ⟨hstatuses, htags, hlost⟩ : _ ∧ _ ∧ _ := by simpa only [Prod.mk.injEq] using he
  exact ⟨c, hc, hstatuses ▸ get_set_same _ a _, htags.symm, hlost.symm⟩

theorem trip_raised (a : Fin 12) (n : Nat) (s : State) :
    (trip a n s).raised = s.raised ++ if (layoutAt a s).policy = .halt then [.loadTrip a n] else [] := by
  obtain ⟨-, hraised⟩ := tripsOut_keeps a (tripHanded a n s)
  rw [trip_eq, hraised, tripHanded_raised]

/-- A first or second trip in a row, or one of an arch that is out already, leaves the flag (R47). -/
theorem trip_of_other (h : (archAt a s).trips < 2 ∨ (archAt a s).outOfService = true) : trip a n s = tripHanded a n s := by
  obtain ⟨-, hflag⟩ := goHome_counts (layoutAt a s) s.settings.site (archAt a s)
  rw [trip_eq]
  refine tripsOut_of_other ?_
  rw [archAt_tripHanded]
  exact h.imp (fun _ => by dsimp only; omega) hflag.trans

/-- A third trip in a row takes the arch out of service, with the notice TRIPS and availability re-evaluated (R47). -/
theorem trip_of_third (ht : 2 ≤ (archAt a s).trips) (ho : (archAt a s).outOfService = false) :
    trip a n s = reevaluate .arch
      (archNotice .trips a (modifyArch a (fun x => { x with outOfService := true }) (tripHanded a n s))) := by
  obtain ⟨-, hflag⟩ := goHome_counts (layoutAt a s) s.settings.site (archAt a s)
  rw [trip_eq]
  refine tripsOut_of_third ?_ ?_
  · rw [archAt_tripHanded]
    dsimp only
    omega
  · rw [archAt_tripHanded]
    exact hflag.trans ho

theorem tripHanded_eq (a : Fin 12) (n : Nat) (s : State) :
    tripHanded a n s = if (layoutAt a s).policy = .halt then
      { tripCounted a n s with raised := s.raised ++ [.loadTrip a n] } else tripCounted a n s := by
  rw [← (tripCounted_inert a n s).raised]
  rfl

/-! ## The statement -/

/-- Settles O39: no check, a first over code, and a trip with all it does. -/
theorem secondOverLoadTripsTheArch : Obligations.SecondOverLoadTripsTheArch := by
  refine ⟨fun a s h => loadCheck_of_idle h, ?_⟩
  intro a n s he hphase ht t x
  have hcheck := loadCheck_eq he hphase ht
  refine ⟨fun hunder => hcheck.trans (if_neg (not_le.mpr hunder)), fun hover hfirst => ?_, fun hover hsecond => ?_⟩
  · exact hcheck.trans ((if_pos hover).trans (if_neg (Bool.eq_false_iff.mp hfirst)))
  · have htrip : t = trip a n (loaded a true s) := hcheck.trans ((if_pos hover).trans (if_pos hsecond))
    have hread : archAt a (loaded a true s) = { x with loadRead := x.loadLine, overOnce := true } :=
      archAt_modifyArch_same a _ s
    have harch := archAt_trip a n (loaded a true s)
    obtain ⟨hengaged, -, -, hhome, hcommand⟩ := goHome_frees (layoutAt a s) s.settings.site (archAt a (loaded a true s))
    obtain ⟨hcount, -⟩ := goHome_counts (layoutAt a s) s.settings.site (archAt a (loaded a true s))
    have htrips : (archAt a (loaded a true s)).trips = x.trips := by rw [hread]
    have hout : (archAt a (loaded a true s)).outOfService = x.outOfService := by rw [hread]
    rw [← htrip, htrips, hout] at harch
    refine ⟨?_, ?_, ?_, ?_, ?_, ?_, fun d hd => ?_, fun c d hc hd => ?_, ?_, ?_⟩
    · exact harch ▸ hengaged
    · exact harch ▸ hcount
    · rw [harch]
    · intro hstays
      rw [harch] at hstays
      have hleft := hhome.symm.trans hstays
      split at hleft <;> cases hleft
    · exact harch ▸ hcommand
    · rw [harch]
    · rw [htrip] at hd
      obtain ⟨_, _, hskipped, _⟩ := found_trip hd
      exact hskipped
    · rw [htrip] at hd
      obtain ⟨c', hc', -, htags, hlost⟩ := found_trip hd
      obtain rfl := Option.some.inj (hc'.symm.trans hc)
      rw [htags, hlost]
      exact addTag_cases _ c'
    · rw [htrip]
      exact trip_raised a n _
    · intro freed skipped counted handed
      have hhanded : tripHanded a n (loaded a true s) = handed := tripHanded_eq a n _
      rw [htrip, ← hhanded, ← htrips, ← hout]
      exact ⟨trip_of_other, trip_of_third⟩

end Sys2Proof.Machine
end

section
/-! What every command answers (R63, R176, R190): each is an event, or the power-on reset that is a start. -/

namespace Sys2Proof.Machine

/-- Every command but a power-on reset is an event on a part that has supply (R190, R191). -/
theorem exec_eq_event (i : Instr) (s : State) (hi : ∀ lines verified, i ≠ .powerOnReset lines verified) :
    ∃ f, exec i s = event f s := by
  cases i with
  | powerOnReset lines verified => exact absurd rfl (hi lines verified)
  | _ => exact ⟨_, rfl⟩

/-- Settles O3: an event ends settled, and without supply it does nothing; a power-on reset ends settled in either case. -/
theorem everyCommandCompletes : Obligations.EveryCommandCompletes := by
  intro i s
  by_cases hreset : ∃ lines verified, i = .powerOnReset lines verified
  · obtain ⟨lines, verified, rfl⟩ := hreset
    exact ⟨_, exec_powerOnReset lines verified s, rfl, fun _ => settleEvent_settled _, fun _ h => absurd rfl (h lines verified)⟩
  · obtain ⟨f, hf⟩ := exec_eq_event i s fun lines verified h => hreset ⟨lines, verified, h⟩
    rw [hf]
    cases hp : s.powered with
    | true => exact ⟨_, event_powered f s hp, rfl, fun _ => settleEvent_settled (f s), nofun⟩
    | false => exact ⟨s, event_unpowered f s hp, rfl, nofun, fun _ _ => rfl⟩

end Sys2Proof.Machine
end

section
/-! SUPPORT. The largest and the smallest of a number and a list, as the model folds them (R12, R58, R70). -/

namespace Sys2Proof.Machine

/-- A fold of `max` is one of its numbers, and none of them is above it. -/
theorem foldl_max_spec (a : Nat) (l : List Nat) : l.foldl max a ∈ a :: l ∧ ∀ b ∈ a :: l, b ≤ l.foldl max a :=
  List.max?_eq_some_iff.mp List.max?_cons'

/-- A fold of `min` is one of its numbers, and none of them is below it. -/
theorem foldl_min_spec (a : Nat) (l : List Nat) : l.foldl min a ∈ a :: l ∧ ∀ b ∈ a :: l, l.foldl min a ≤ b :=
  List.min?_eq_some_iff.mp List.min?_cons'

end Sys2Proof.Machine
end

section
/-! The conveyor class (R70) and the applied classes (R72) after a recomputation, and the classes that the tracker keeps of one handed
down (R9, R13). -/

namespace Sys2Proof.Machine

/-- The classes of the cars in the following domain (R69, R70). -/
def domainClasses (s : State) : List Nat := (s.entry.table.filter (·.inDomain)).map (·.cls)

/-- The conveyor class is the cap or the class of a car in the domain, and none of these is smaller (R70). -/
theorem conveyorClass_spec (s : State) :
    (conveyorClass s = s.settings.site.cap ∨ conveyorClass s ∈ domainClasses s) ∧
      conveyorClass s ≤ s.settings.site.cap ∧ ∀ k ∈ domainClasses s, conveyorClass s ≤ k := by
  obtain ⟨hmem, hle⟩ := foldl_min_spec s.settings.site.cap (domainClasses s)
  exact ⟨List.mem_cons.mp hmem, List.forall_mem_cons.mp hle⟩

/-- A class handed down is the commanded class (R9). -/
theorem handDown_commanded (k : Nat) (t : Tracker) : (t.handDown k).commanded = k := by
  unfold Tracker.handDown
  split
  next h => exact h.symm
  · rfl

theorem handDown_of_eq {k : Nat} {t : Tracker} (h : k = t.commanded) : t.handDown k = t := if_pos h

/-- A class that differs enters the interval class and the settle class (R9, R13). -/
theorem handDown_of_ne {k : Nat} {t : Tracker} (h : k ≠ t.commanded) :
    t.handDown k = { t with
      commanded := k
      interval := max t.interval k
      settle := t.window.foldl max (max t.interval k) } := if_neg h

theorem recomputeClass_commanded (s : State) : (recomputeClass s).tracker.commanded = conveyorClass s :=
  handDown_commanded _ s.tracker

/-- Settles O33: the class handed down is the conveyor class, and only the tracker and the applied classes go by it. -/
theorem recomputationHandsDownTheSlowestClass : Obligations.RecomputationHandsDownTheSlowestClass := by
  intro s t classes
  have hcommanded : t.tracker.commanded = conveyorClass s := recomputeClass_commanded s
  obtain ⟨hmem, hcap, hclasses⟩ := conveyorClass_spec s
  refine ⟨hcommanded ▸ hcap, hcommanded ▸ hclasses, hcommanded ▸ hmem, ?_, fun h => ?_, fun h => ?_, rfl⟩
  · refine List.map_congr_left fun c _ => ?_
    rw [hcommanded, Car.apply]
    cases c.applied <;> simp
  · exact handDown_of_eq (hcommanded.symm.trans h)
  · rw [hcommanded] at h ⊢
    exact handDown_of_ne h

end Sys2Proof.Machine
end

section
/-! The interpolated value (R57) and the window value (R58) of a series. -/

namespace Sys2Proof.Machine

variable {series : List Nat} {x : Int}

/-! ## The interpolated value (R57) -/

theorem interpolate_before (h : x ≤ 0) : interpolate series x = series.getD 0 0 := if_pos h

theorem interpolate_after (hpos : 0 < x) (h : 8 * ((series.length : Int) - 1) ≤ x) :
    interpolate series x = series.getD (series.length - 1) 0 := by
  have hlast : ((samplePitch * (series.length - 1) : Nat) : Int) ≤ x := by
    simp only [samplePitch]
    omega
  exact (if_neg (not_le.mpr hpos)).trans (if_pos hlast)

/-- From the first sample up to the last: the sample itself on a sample, else the line to the next, rounded half up. -/
theorem interpolate_within {k r : Nat} (hpos : 0 < 8 * k + r) (hk : k + 1 < series.length) (hr : r < 8) :
    interpolate series (8 * k + r : Nat) =
      if r = 0 then series.getD k 0 else (series.getD k 0 * (8 - r) + series.getD (k + 1) 0 * r + 4) / 8 := by
  have hfirst : ¬ ((8 * k + r : Nat) : Int) ≤ 0 := by omega
  have hlast : ¬ ((8 * (series.length - 1) : Nat) : Int) ≤ (8 * k + r : Nat) := by omega
  have hquot : (8 * k + r) / 8 = k := by omega
  have hrem : (8 * k + r) % 8 = r := by omega
  simp only [interpolate, samplePitch, if_neg hfirst, if_neg hlast, Int.toNat_natCast, hquot, hrem]

theorem interpolate_between {k r : Nat} (hk : k + 1 < series.length) (hr : 0 < r) (hr8 : r < 8) :
    interpolate series (8 * k + r : Nat) = (series.getD k 0 * (8 - r) + series.getD (k + 1) 0 * r + 4) / 8 := by
  rw [interpolate_within (by omega) hk hr8, if_neg hr.ne']

theorem interpolate_sample {k : Nat} (hk : k < series.length) : interpolate series (8 * k : Nat) = series.getD k 0 := by
  rcases Nat.eq_zero_or_pos k with rfl | hpos
  · exact interpolate_before le_rfl
  · rcases Nat.lt_or_ge (k + 1) series.length with hnext | hend
    · exact interpolate_within (r := 0) (by omega) hnext (by decide)
    · obtain rfl : k = series.length - 1 := by omega
      exact interpolate_after (by omega) (by omega)

/-- The value is a sample, or a point on the line between two. -/
theorem interpolate_cases (series : List Nat) (x : Int) :
    (∃ k, interpolate series x = series.getD k 0) ∨
      ∃ k r, r ≤ 8 ∧ interpolate series x = (series.getD k 0 * (8 - r) + series.getD (k + 1) 0 * r + 4) / 8 := by
  unfold interpolate
  dsimp only
  split
  · exact .inl ⟨_, rfl⟩
  · split
    · exact .inl ⟨_, rfl⟩
    · split
      · exact .inl ⟨_, rfl⟩
      · exact .inr ⟨_, _, (Nat.mod_lt _ (by decide)).le, rfl⟩

theorem getD_le_foldl_max (series : List Nat) (k : Nat) : series.getD k 0 ≤ series.foldl max 0 := by
  rcases Nat.lt_or_ge k series.length with hk | hk
  · obtain ⟨-, hle⟩ := foldl_max_spec 0 series
    rw [List.getD_eq_getElem _ _ hk]
    exact hle _ (List.mem_cons_of_mem _ (List.getElem_mem hk))
  · rw [List.getD_eq_default _ _ hk]
    exact Nat.zero_le _

/-- No value is above the largest sample. -/
theorem interpolate_le (series : List Nat) (x : Int) : interpolate series x ≤ series.foldl max 0 := by
  obtain ⟨k, he⟩ | ⟨k, r, hr, he⟩ := interpolate_cases series x
  · rw [he]
    exact getD_le_foldl_max series k
  · have hline : series.getD k 0 * (8 - r) + series.getD (k + 1) 0 * r ≤ series.foldl max 0 * 8 := calc
      _ ≤ series.foldl max 0 * (8 - r) + series.foldl max 0 * r := by gcongr <;> exact getD_le_foldl_max series _
      _ = series.foldl max 0 * 8 := by rw [← Nat.mul_add, Nat.sub_add_cancel hr]
    rw [he]
    omega

/-! ## The window value (R58) -/

/-- The samples strictly between the two ends of the window. -/
def samplesWithin (series : List Nat) (x : Int) (w : Nat) : List Nat :=
  ((List.range series.length).filter fun k => decide (x < ((samplePitch * k : Nat) : Int)) &&
    decide (((samplePitch * k : Nat) : Int) < x + w)).map fun k => series.getD k 0

theorem mem_samplesWithin {w v : Nat} : v ∈ samplesWithin series x w ↔
    ∃ k, k < series.length ∧ x < 8 * (k : Int) ∧ 8 * (k : Int) < x + w ∧ v = series.getD k 0 := by
  simp [samplesWithin, samplePitch, and_assoc, @eq_comm _ v]

theorem windowValue_eq (series : List Nat) (x : Int) (w : Nat) :
    windowValue series x w
      = (samplesWithin series x w).foldl max (max (interpolate series x) (interpolate series (x + w))) := rfl

/-- The window value is an end's value or a sample strictly between. -/
theorem windowValue_cases (series : List Nat) (x : Int) (w : Nat) :
    windowValue series x w = interpolate series x ∨ windowValue series x w = interpolate series (x + w) ∨
      ∃ k, k < series.length ∧ x < 8 * (k : Int) ∧ 8 * (k : Int) < x + w ∧ windowValue series x w = series.getD k 0 := by
  obtain ⟨hmem, -⟩ := foldl_max_spec (max (interpolate series x) (interpolate series (x + w))) (samplesWithin series x w)
  rw [← windowValue_eq] at hmem
  obtain hend | hsample := List.mem_cons.mp hmem
  · exact (max_choice _ _).imp hend.trans fun h => .inl (hend.trans h)
  · exact .inr (.inr (mem_samplesWithin.mp hsample))

/-- No end's value and no sample strictly between is above the window value. -/
theorem windowValue_bounds (series : List Nat) (x : Int) (w : Nat) :
    interpolate series x ≤ windowValue series x w ∧ interpolate series (x + w) ≤ windowValue series x w ∧
    ∀ k, k < series.length → x < 8 * (k : Int) → 8 * (k : Int) < x + w → series.getD k 0 ≤ windowValue series x w := by
  obtain ⟨-, hle⟩ := foldl_max_spec (max (interpolate series x) (interpolate series (x + w))) (samplesWithin series x w)
  rw [← windowValue_eq] at hle
  obtain ⟨hends, hbetween⟩ := List.forall_mem_cons.mp hle
  exact ⟨le_of_max_le_left hends, le_of_max_le_right hends,
    fun k hk hfrom hto => hbetween _ (mem_samplesWithin.mpr ⟨k, hk, hfrom, hto, rfl⟩)⟩

/-- Settles O41: the four cases of the interpolated value, and the largest of the window's values. -/
theorem interpolationAndWindow : Obligations.InterpolationAndWindow := by
  intro series x w _ n
  have hcases := windowValue_cases series x w
  obtain ⟨hfirst, hlast, hbetween⟩ := windowValue_bounds series x w
  refine ⟨interpolate_before, fun h hpos => interpolate_after hpos h, fun k => interpolate_sample,
    fun k r => interpolate_between, hfirst, hlast, hbetween, hcases, ?_, ?_⟩
  · obtain he | he | ⟨k, -, -, -, he⟩ := hcases
    · exact he ▸ interpolate_le series x
    · exact he ▸ interpolate_le series _
    · exact he ▸ getD_le_foldl_max series k
  · obtain he | he | ⟨k, -, hfrom, hto, -⟩ := windowValue_cases series x 0
    · exact he
    · rw [he, Nat.cast_zero, add_zero]
    · omega

end Sys2Proof.Machine
end

section
/-! The following computation of one arch on one car (R55 to R64), with the trace ring and the shadow tag of a rehearsal (R166). -/

namespace Sys2Proof.Machine

variable {a : Fin 12} {n : Nat} {s : State}

/-! ## The computation (R55 to R63) -/

/-- An arch that is not FOLLOWING computes nothing (R55). -/
theorem followStep_of_idle (p : Pos) (settle : Nat) (h : (archAt a s).phase ≠ .following) : followStep a p settle s = s := by
  unfold followStep
  dsimp only
  split
  · rfl
  · exact if_pos (bne_iff_ne.mpr h)

/-- A FOLLOWING arch takes the command computed for its car, and then traces, tags or raises what follows of it. -/
theorem followStep_of_following {c : Car} {origin : Pos} (p : Pos) (settle : Nat) (he : (archAt a s).engaged = some n)
    (hphase : (archAt a s).phase = .following) (hc : findCar n s = some c) (ho : c.origin = some origin) :
    followStep a p settle s =
      let f := followCar (layoutAt a s) (speedOf s.settings.site settle) (archAt a s).command p origin c
      afterFollow a n p f (modifyArch a (fun x => { x with command := f.command }) s) := by
  simp only [followStep, he, hphase, hc, ho]
  rfl

/-! ## What the computation leads to (R63, R64, R166) -/

/-- Outside a rehearsal a deficit over the margin raises SLEW_DEFICIT (R63). -/
theorem afterFollow_of_washing (p : Pos) (f : Followed) (h : s.supervisor.tunnel ≠ .rehearsal) :
    afterFollow a n p f s =
      if ((layoutAt a s).margin : Int) < f.deficit then { s with raised := s.raised ++ [.slewDeficit a n] } else s := by
  simp only [afterFollow, if_neg h, decide_eq_true_eq]
  rfl

/-- In a rehearsal the computation is traced, and a deficit over the margin tags the car (R64). -/
theorem afterFollow_of_rehearsal (p : Pos) (f : Followed) (h : s.supervisor.tunnel = .rehearsal) :
    afterFollow a n p f s =
      if ((layoutAt a s).margin : Int) < f.deficit then modifyCar n (Car.shadowTag a) (writeTrace a p f s)
      else writeTrace a p f s := by
  simp only [afterFollow, if_pos h, decide_eq_true_eq]

/-- The traced arch's computation is the next entry of the ring, whose oldest entry leaves it once it is full (R166). -/
theorem writeTrace_eq (a : Fin 12) (p : Pos) (f : Followed) (s : State) :
    writeTrace a p f s =
      if s.rehearsal.traced = some a ∧ s.rehearsal.written < 65535 then
        let ring := s.trace ++ [{ number := s.rehearsal.written + 1, position := p, target := f.target, command := f.command,
                                  deficit := f.deficit }]
        { s with
          rehearsal.written := s.rehearsal.written + 1
          trace := if s.trace.length < 64 then ring else ring.drop 1 }
      else s := by
  have hfull (e : TraceEntry) : (if traceCapacity < (s.trace ++ [e]).length then (s.trace ++ [e]).drop 1 else s.trace ++ [e]) =
      if s.trace.length < 64 then s.trace ++ [e] else (s.trace ++ [e]).drop 1 := by
    rw [← ite_not]
    refine if_congr ?_ rfl rfl
    simp only [traceCapacity, List.length_append, List.length_singleton]
    omega
  simp only [writeTrace, Bool.and_eq_true, decide_eq_true_eq, hfull]
  rfl

/-- Only a car not yet tagged at the arch takes the shadow tag (R64). -/
theorem modifyCar_shadowTag (a : Fin 12) (n : Nat) (s : State) :
    modifyCar n (Car.shadowTag a) s = { s with entry.table := s.entry.table.map fun k =>
      if k.number = n ∧ a ∉ k.shadowed then { k.addTag (.shadowDeficit a) with shadowed := a :: k.shadowed } else k } := by
  have htag (k : Car) : (if k.number = n then k.shadowTag a else k) =
      if k.number = n ∧ a ∉ k.shadowed then { k.addTag (.shadowDeficit a) with shadowed := a :: k.shadowed } else k := by
    by_cases ha : a ∈ k.shadowed <;> simp [Car.shadowTag, ha]
  simp only [modifyCar, htag]

/-- Settles O40: the model's computation is the stated one, and so is what it leads to in a rehearsal and in a wash. -/
theorem followingMovesTowardsTheTarget : Obligations.FollowingMovesTowardsTheTarget := by
  refine ⟨fun a p settle s => followStep_of_idle p settle, ?_, ?_⟩
  · intro a p settle n c origin s he hphase hc ho ht layout series u press step raw target command moved deficit number ring t
      written traced
    have htraced : writeTrace a p ⟨target, moved, deficit⟩ t = traced := writeTrace_eq a p _ t
    rw [followStep_of_following p settle he hphase hc ho, ← htraced, ← modifyCar_shadowTag]
    exact afterFollow_of_rehearsal p ⟨target, moved, deficit⟩ ht
  · intro a p settle n c origin s he hphase hc ho ht layout series u press step raw target command moved deficit t
    rw [followStep_of_following p settle he hphase hc ho]
    exact afterFollow_of_washing p ⟨target, moved, deficit⟩ ht

end Sys2Proof.Machine
end

section
/-! A car's requirements (R65, R66), its class (R67) and its place in the following domain (R69, R70). -/

namespace Sys2Proof.Machine

variable {s : State} {c d : Car} {n : Nat}

/-! ## Requirements (R66) -/

/-- Changing each listed element once changes the listed elements and no other. -/
theorem get_foldl_modifyAt {α : Type} {m : Nat} (f : Fin m → α → α) {l : List (Fin m)} (hl : l.Nodup) (v : Vector α m)
    (i : Fin m) : (l.foldl (fun v a => modifyAt v a (f a)) v).get i = if i ∈ l then f i (v.get i) else v.get i := by
  induction l generalizing v with
  | nil => simp
  | cons a rest ih =>
    obtain ⟨ha, hrest⟩ := List.nodup_cons.mp hl
    rw [List.foldl_cons, ih hrest, get_modifyAt]
    by_cases hi : i = a
    · subst hi
      simp [ha]
    · simp [hi]

theorem nodup_countedArches (s : State) (c : Car) : (countedArches s c).Nodup :=
  (by decide : allArches.Nodup).filter _

/-- A counted arch's requirement rises to what the pair of samples demands; the others stand. -/
theorem requirements_raiseRequirements (s : State) (x y : Sample) (c : Car) (a : Fin 12) :
    (raiseRequirements s x y c).requirements.get a =
      if followingArch a s = true ∧ (c.statuses.get a).isSome = true then
        max (c.requirements.get a) (riseRequirement (layoutAt a s) x y)
      else c.requirements.get a := by
  refine (get_foldl_modifyAt _ (nodup_countedArches s c) c.requirements a).trans ?_
  simp only [mem_countedArches]

/-- The ceiling of the rise over 8 + W. -/
theorem riseRequirement_eq (r : Layout) (x y : Sample) :
    riseRequirement r x y = (seriesOf r.kind y - seriesOf r.kind x + (7 + r.lookAhead)) / (8 + r.lookAhead) := by
  unfold riseRequirement ceilDiv samplePitch
  congr 1
  omega

theorem lastPair_append (before : List Sample) (x y : Sample) : lastPair (before ++ [x, y]) = some (x, y) := by
  induction before with
  | nil => rfl
  | cons z rest ih =>
    cases rest with
    | nil => rfl
    | cons w rest => cases rest <;> exact ih

/-! ## The class (R67) -/

/-- Classes are tried from the maximum down: one that passes is taken, else 1, and none above it passes. -/
theorem highestClass_spec (p : Nat → Bool) {m : Nat} (hm : 1 ≤ m) {k : Nat} (hk : ((classesFrom m).find? p).getD 1 = k) :
    1 ≤ k ∧ k ≤ m ∧ (p k = true ∨ k = 1) ∧ ∀ j, k < j → j ≤ m → ¬ p j = true := by
  induction m, hm using Nat.le_induction generalizing k with
  | base =>
    have hone : k = 1 := by
      rw [← hk]
      cases hp : p 1 <;> simp [classesFrom, hp]
    subst hone
    exact ⟨le_rfl, le_rfl, .inr rfl, fun j hj hj' => absurd hj (not_lt.mpr hj')⟩
  | succ m hm ih =>
    by_cases hp : p (m + 1) = true
    · obtain rfl : m + 1 = k := by simpa [classesFrom, hp] using hk
      exact ⟨by omega, le_rfl, .inl hp, fun j hj hj' => absurd hj (not_lt.mpr hj')⟩
    · obtain ⟨hlow, hhigh, hpass, habove⟩ := ih (k := k) (by simpa [classesFrom, hp] using hk)
      refine ⟨hlow, by omega, hpass, fun j hj hj' => ?_⟩
      obtain rfl | hj' : j = m + 1 ∨ j ≤ m := by omega
      · exact hp
      · exact habove j hj hj'

/-- A class qualifies when each counted arch's step limit at its speed meets the requirement. -/
theorem classQualifies_iff (s : State) (c : Car) (k : Nat) : classQualifies s c k = true ↔
    ∀ a, followingArch a s = true → (c.statuses.get a).isSome = true →
      c.requirements.get a ≤ max 1 ((layoutAt a s).slew / speedOf s.settings.site k) := by
  simp [classQualifies, mem_countedArches, stepLimit]

/-- What of a car its class goes by, and its samples. -/
def paceOf (c : Car) : Nat × Vector Nat 12 × Vector (Option ArchStatus) 12 × List Sample :=
  (c.maxClass, c.requirements, c.statuses, c.samples)

theorem paceOf_eq_iff (c d : Car) : paceOf d = paceOf c ↔
    d.maxClass = c.maxClass ∧ d.requirements = c.requirements ∧ d.statuses = c.statuses ∧ d.samples = c.samples := by
  simp only [paceOf, Prod.mk.injEq]

theorem paceOf_addTag (t : Tag) (c : Car) : paceOf (c.addTag t) = paceOf c := by
  unfold Car.addTag
  repeat' split
  all_goals rfl

theorem paceOf_apply (k : Nat) (c : Car) : paceOf (c.apply k) = paceOf c := by
  unfold Car.apply
  split <;> rfl

theorem classOf_congr (s : State) (h : paceOf d = paceOf c) : classOf s d = classOf s c := by
  obtain ⟨hmax, hrequirements, hstatuses, -⟩ := (paceOf_eq_iff c d).mp h
  have hqualifies : classQualifies s d = classQualifies s c := by
    unfold classQualifies countedArches
    rw [hrequirements, hstatuses]
  rw [classOf, hmax, hqualifies, classOf]

theorem map_paceOf_setClass (n k : Nat) (s : State) : (findCar n (setClass n k s)).map paceOf = (findCar n s).map paceOf := by
  unfold setClass
  split
  · rfl
  · split
    · rfl
    · rw [findCar_recomputeClass, findCar_modifyCar n (fun c => { c with cls := k }) (fun _ => rfl), Option.map_map,
        Option.map_map]
      exact Option.map_congr fun c _ => paceOf_apply _ _

/-- The class is computed of the car as it stands, whether the tag STEEP goes with it or not (R67). -/
theorem found_computeClass (hc : findCar n s = some c) :
    ∃ d, findCar n (computeClass n s) = some d ∧ paceOf d = paceOf c ∧ d.cls = classOf s c := by
  obtain ⟨t, u, ht, hu, hstep⟩ : ∃ t u, findCar n t = some u ∧ paceOf u = paceOf c ∧
      computeClass n s = setClass n (classOf s c) t := by
    simp only [computeClass, hc]
    split
    · exact ⟨s, c, hc, rfl, rfl⟩
    · refine ⟨_, _, found_modifyCar _ (fun c => ?_) hc, paceOf_addTag .steep c, rfl⟩
      exact (addTag_sameMeasure .steep c).number
  obtain ⟨d, hd, hcls⟩ := found_setClass (classOf s c) ht
  have hpace := map_paceOf_setClass n (classOf s c) t
  rw [hd, ht] at hpace
  exact ⟨d, hstep ▸ hd, (Option.some.inj hpace).trans hu, hcls⟩

/-- A sample appended raises the requirements by the last pair, and the class follows (R66, R67). -/
theorem found_paceSample {before : List Sample} {x y : Sample} (hc : findCar n s = some c)
    (hsamples : c.samples = before ++ [x, y]) :
    ∃ d, findCar n (paceSample n s) = some d ∧ paceOf d = paceOf (raiseRequirements s x y c) ∧ d.cls = classOf s d := by
  have hraised := found_modifyCar (raiseRequirements s x y) (fun _ => rfl) hc
  obtain ⟨d, hd, hpace, hcls⟩ := found_computeClass hraised
  refine ⟨d, ?_, hpace, hcls.trans (classOf_congr s hpace).symm⟩
  simp only [paceSample, hc, hsamples, lastPair_append]
  exact hd

/-! ## The following domain (R69, R70) -/

theorem countedArches_isEmpty_iff (s : State) (c : Car) : (countedArches s c).isEmpty = true ↔
    ∀ st, ¬ ∃ a, followingArch a s = true ∧ c.statuses.get a = some st := by
  simp only [List.isEmpty_iff, List.eq_nil_iff_forall_not_mem, mem_countedArches, Option.isSome_iff_exists]
  grind

theorem stillFollowed_iff (s : State) (c : Car) : stillFollowed s c = true ↔
    (∃ a, followingArch a s = true ∧ c.statuses.get a = some .pending) ∨
      ∃ a, followingArch a s = true ∧ c.statuses.get a = some .active := by
  simp only [stillFollowed, List.any_eq_true, mem_countedArches, Bool.or_eq_true, beq_iff_eq, Option.isSome_iff_exists]
  grind

/-- A car enters or leaves the domain, and the conveyor class is recomputed (R69, R70). -/
def placeCar (n : Nat) (inside : Bool) (s : State) : State :=
  recomputeClass (modifyCar n (fun c => { c with inDomain := inside }) s)

theorem joinDomain_eq (hc : findCar n s = some c) :
    joinDomain n s = if (countedArches s c).isEmpty then s else placeCar n true s := by
  rw [joinDomain, hc]
  rfl

theorem statusSettled_eq (hc : findCar n s = some c) :
    statusSettled n s = if c.inDomain && !stillFollowed s c then placeCar n false s else s := by
  rw [statusSettled, hc]
  rfl

/-- Settles O42: a new record's pace, a sample's requirements and class, the domain, and the highest class that qualifies. -/
theorem classIsTheHighestThatQualifies : Obligations.ClassIsTheHighestThatQualifies := by
  refine ⟨?_, ?_, ?_, ?_⟩
  · intro n sale s c
    exact ⟨fun a => Vector.getElem_replicate a.isLt, rfl, rfl, rfl⟩
  · intro n c before x y s hc hsamples d hd
    obtain ⟨d', hd', hpace, hcls⟩ := found_paceSample hc hsamples
    obtain rfl := Option.some.inj (hd'.symm.trans hd)
    obtain ⟨-, hrequirements, hstatuses, hkept⟩ := (paceOf_eq_iff _ _).mp hpace
    refine ⟨fun a => ?_, hcls, hkept, hstatuses⟩
    rw [hrequirements, requirements_raiseRequirements, riseRequirement_eq]
  · intro n c s hc followed place
    refine ⟨fun h => ?_, fun h => ?_, fun hin hp ha => ?_, fun h => ?_⟩
    · rw [joinDomain_eq hc, if_neg]
      · rfl
      · exact fun he => h.elim ((countedArches_isEmpty_iff s c).mp he)
    · rw [joinDomain_eq hc, if_pos ((countedArches_isEmpty_iff s c).mpr h)]
    · have hgone : stillFollowed s c = false :=
        Bool.eq_false_iff.mpr fun hs => ((stillFollowed_iff s c).mp hs).elim hp ha
      rw [statusSettled_eq hc, if_pos (by rw [hin, hgone]; rfl)]
      rfl
    · have hstays : ¬ (c.inDomain && !stillFollowed s c) = true := by
        rw [Bool.and_eq_true, Bool.not_eq_true']
        rintro ⟨hin, hgone⟩
        refine Bool.eq_false_iff.mp hgone ((stillFollowed_iff s c).mpr (h.resolve_left ?_))
        exact fun hout => Bool.eq_false_iff.mp hout hin
      rw [statusSettled_eq hc, if_neg hstays]
  · intro c s hmax meets k
    obtain ⟨hlow, hhigh, hpass, habove⟩ := highestClass_spec (classQualifies s c) hmax (k := k) rfl
    exact ⟨hlow, hhigh, hpass.imp_left (classQualifies_iff s c k).mp,
      fun j hj hj' hmeets => habove j hj hj' ((classQualifies_iff s c j).mpr hmeets)⟩

end Sys2Proof.Machine
end

section
/-! The Wash Journal's records: what a submission does to a bank (R146, R153, R154), and the records of a car removed and of a ticket
(R148 to R151). -/

namespace Sys2Proof.Machine

variable {s : State} {b : BankId}

/-! ## Banks -/

@[simp] theorem bankAt_modifyBank_same (b : BankId) (f : Bank → Bank) (s : State) :
    bankAt b (modifyBank b f s) = f (bankAt b s) := by cases b <;> rfl

@[simp] theorem bankAt_modifyBank_other (b : BankId) (f : Bank → Bank) (s : State) :
    bankAt (otherBank b) (modifyBank b f s) = bankAt (otherBank b) s := by cases b <;> rfl

@[simp] theorem bankAt_journalNotice (c : BankId) (kind : Nat) (b : BankId) (contents : List Byte) (s : State) :
    bankAt c (journalNotice kind b contents s) = bankAt c s := rfl

/-! ## A submission (R153, R154) -/

/-- What a record does to its bank: it is stored while there is room, else counted. -/
def Bank.submitted (r : JournalRecord) (k : Bank) : Bank := if k.written < 256 then k.store r else k.spill r

/-- The journal notice of a submission to a bank as it stood: FULL with the 256th record, OVERFLOW beyond it, else none. -/
def submitNotices (b : BankId) (r : JournalRecord) (k : Bank) : List Notice :=
  if k.written < 256 then
    if k.written = 255 then [⟨.journal, none, put8 3 ++ put8 (bankCode b)⟩] else []
  else [⟨.journal, none, put8 4 ++ put8 (bankCode b)
    ++ (put8 (outcomeCode r.outcome) ++ put32 r.total ++ putZero16 r.ticket ++ putZero16 r.car)⟩]

theorem modifyBank_congr {f g : Bank → Bank} (h : f (bankAt b s) = g (bankAt b s)) : modifyBank b f s = modifyBank b g s := by
  cases b
  · exact congrArg (fun k => { s with journal.bankA := k }) h
  · exact congrArg (fun k => { s with journal.bankB := k }) h

/-- With room a record is stored, and the 256th is noticed (R153). -/
theorem submit_of_room (r : JournalRecord) (h : (bankAt b s).written < 256) :
    submit b r s = { modifyBank b (Bank.store r) s with
      outbox := s.outbox ++ if (bankAt b s).written = 255 then [⟨.journal, none, put8 3 ++ put8 (bankCode b)⟩] else [] } := by
  have hwritten : (bankAt b (modifyBank b (Bank.store r) s)).written = (bankAt b s).written + 1 := by
    rw [bankAt_modifyBank_same]
    rfl
  have hfull : (bankAt b s).written + 1 = 256 ↔ (bankAt b s).written = 255 := by omega
  simp only [submit, bankCapacity, if_pos h, hwritten, hfull]
  split
  · simp [journalNotice, notify, fullKind]
  · rw [List.append_nil, ← modifyBank_outbox s b (Bank.store r)]

/-- Without room a record is counted, and noticed (R154). -/
theorem submit_of_full (r : JournalRecord) (h : ¬ (bankAt b s).written < 256) :
    submit b r s = { modifyBank b (Bank.spill r) s with
      outbox := s.outbox ++ [⟨.journal, none, put8 4 ++ put8 (bankCode b)
        ++ (put8 (outcomeCode r.outcome) ++ put32 r.total ++ putZero16 r.ticket ++ putZero16 r.car)⟩] } := by
  rw [← modifyBank_outbox s b (Bank.spill r)]
  exact if_neg h

/-- A submission changes its bank, and the outbox by its notice. -/
theorem submit_eq (b : BankId) (r : JournalRecord) (s : State) :
    submit b r s = { modifyBank b (Bank.submitted r) s with outbox := s.outbox ++ submitNotices b r (bankAt b s) } := by
  by_cases hroom : (bankAt b s).written < 256
  · have hstored : modifyBank b (Bank.submitted r) s = modifyBank b (Bank.store r) s := modifyBank_congr (if_pos hroom)
    rw [submit_of_room r hroom, hstored, submitNotices, if_pos hroom]
  · have hspilled : modifyBank b (Bank.submitted r) s = modifyBank b (Bank.spill r) s := modifyBank_congr (if_neg hroom)
    rw [submit_of_full r hroom, hspilled, submitNotices, if_neg hroom]

/-- A record is counted by its outcome and its total, stored or not, and the rest of the header stands (R146). -/
theorem submitted_account (r : JournalRecord) (k : Bank) :
    (k.submitted r).counts = (modifyAt k.counts (outcomeIndex r.outcome) fun n => (n + 1) % 4294967296) ∧
    (k.submitted r).revenue = (k.revenue + r.total) % 18446744073709551616 ∧
    ((k.submitted r).state, (k.submitted r).cursor, (k.submitted r).admitted, (k.submitted r).voided)
      = (k.state, k.cursor, k.admitted, k.voided) := by
  unfold Bank.submitted
  split <;> exact ⟨rfl, rfl, rfl⟩

/-- The last record of a list is changed and the others stand. -/
theorem changeLast_append (f : JournalRecord → JournalRecord) (rest : List JournalRecord) (last : JournalRecord) :
    changeLast f (rest ++ [last]) = rest ++ [f last] := by
  induction rest with
  | nil => rfl
  | cons r rest ih =>
    cases rest with
    | nil => rfl
    | cons q rest => exact congrArg (r :: ·) ih

/-! ## The record of a car (R148 to R150) -/

/-- The part once a car has left it everywhere, before its record is submitted (R96). -/
def withoutCar (c : Car) (s : State) : State :=
  recomputeClass (unwatch c.number (purgeCar c.number
    { s with entry.table := s.entry.table.filter fun k => k.number != c.number }))

theorem withoutCar_inert (c : Car) (s : State) : Inert s (withoutCar c s) := by
  have hfiltered : Inert s { s with entry.table := s.entry.table.filter fun k => k.number != c.number } :=
    .of ⟨rfl, rfl, rfl, rfl, rfl, rfl, rfl, rfl⟩
  exact ((hfiltered.trans (purgeCar_inert _ _)).trans (unwatch_inert _ _)).trans (recomputeClass_inert _)

theorem layoutAt_withoutCar (a : Fin 12) (c : Car) (s : State) : layoutAt a (withoutCar c s) = layoutAt a s := by
  rw [layoutAt, (withoutCar_inert c s).settings, layoutAt]

theorem removeCar_eq (c : Car) (kind : RemovalKind) (s : State) :
    removeCar c kind s = closeIfEmpty (evaluateRun (if c.phantom then withoutCar c s
      else submitCar c kind (classApplied (withoutCar c s) c) (withoutCar c s))) := rfl

/-- The phantom car, and a car that carries no bank, leave no record (R164). -/
theorem removeCar_of_unrecorded {c : Car} (kind : RemovalKind) (h : c.phantom = true ∨ c.bank = none) :
    removeCar c kind s = closeIfEmpty (evaluateRun (withoutCar c s)) := by
  have hnone : (if c.phantom then withoutCar c s
      else submitCar c kind (classApplied (withoutCar c s) c) (withoutCar c s)) = withoutCar c s := by
    rcases h with hphantom | hbank
    · exact if_pos hphantom
    · rw [submitCar, hbank, ite_self]
  rw [removeCar_eq, hnone]

/-- Any other car's record goes to its bank. -/
theorem removeCar_of_recorded {c : Car} (kind : RemovalKind) (hphantom : c.phantom = false) (hbank : c.bank = some b) :
    removeCar c kind s = closeIfEmpty (evaluateRun (sealIfDrained b (submit b
      (carRecord (withoutCar c s) c kind (classApplied (withoutCar c s) c)) (withoutCar c s)))) := by
  rw [removeCar_eq, if_neg (Bool.eq_false_iff.mp hphantom), submitCar, hbank]

/-- The statuses that a car holds at the arches whose service it is (R149). -/
def serviceStatuses (s : State) (c : Car) (service : Nat) : List ArchStatus :=
  (allArches.filter fun a => (layoutAt a s).kind != .unused && (layoutAt a s).service == service).filterMap
    fun a => c.statuses.get a

theorem mem_serviceStatuses (s : State) (c : Car) (service : Nat) (st : ArchStatus) : st ∈ serviceStatuses s c service ↔
    ∃ a, (layoutAt a s).kind ≠ .unused ∧ (layoutAt a s).service = service ∧ c.statuses.get a = some st := by
  simp [serviceStatuses, mem_allArches, and_assoc]

theorem resolveService_eq (s : State) (c : Car) (service : Nat) :
    resolveService s c service =
      let held := serviceStatuses s c service
      if held.isEmpty || held.any (· == .omitted) then .omitted
      else if held.all (· == .done) then .done
      else .skipped := rfl

/-- A service that no arch was to perform, or that one omitted, is OMITTED (R149). -/
theorem resolveService_of_omitted {c : Car} {service : Nat}
    (h : .omitted ∈ serviceStatuses s c service ∨ ∀ st, st ∉ serviceStatuses s c service) :
    resolveService s c service = .omitted := by
  rw [resolveService_eq]
  refine if_pos ?_
  rcases h with homitted | hnone
  · simp [homitted]
  · simp [List.eq_nil_iff_forall_not_mem.mpr hnone]

/-- A service of which some status is not DONE is SKIPPED, unless it is OMITTED (R149). -/
theorem resolveService_of_unfinished {c : Car} {service : Nat} {st : ArchStatus} (hst : st ∈ serviceStatuses s c service)
    (hdone : st ≠ .done) (homitted : .omitted ∉ serviceStatuses s c service) : resolveService s c service = .skipped := by
  rw [resolveService_eq]
  refine (if_neg ?_).trans (if_neg ?_)
  · simp [homitted, List.ne_nil_of_mem hst]
  · simp only [List.all_eq_true, beq_iff_eq]
    exact fun hall => hdone (hall st hst)

/-- A service whose statuses are all DONE is DONE (R149). -/
theorem resolveService_of_done {c : Car} {service : Nat} (hne : .done ∈ serviceStatuses s c service)
    (hall : ∀ st ∈ serviceStatuses s c service, st = .done) : resolveService s c service = .done := by
  have homitted : ¬ .omitted ∈ serviceStatuses s c service := fun h => nomatch hall _ h
  rw [resolveService_eq]
  refine (if_neg ?_).trans (if_pos ?_)
  · simp [homitted, List.ne_nil_of_mem hne]
  · simpa using hall

/-- A wash is COMPLETE at the exit when every service is DONE, and else PARTLY (R150). -/
theorem resolveOutcome_exit (results : List (Nat × ServiceResult)) :
    ((∀ x ∈ results, x.2 = .done) → resolveOutcome .exit results = .complete) ∧
      ((∃ x ∈ results, x.2 ≠ .done) → resolveOutcome .exit results = .partly) := by
  have hall : (results.all fun r => r.2 == .done) = true ↔ ∀ x ∈ results, x.2 = .done := by
    simp only [List.all_eq_true, beq_iff_eq]
  refine ⟨fun h => if_pos (hall.mpr h), fun ⟨x, hx, hne⟩ => if_neg ?_⟩
  exact fun h => hne (hall.mp h x hx)

theorem measuredLength_of_final {c : Car} (h : c.profile = .complete ∨ c.profile = .truncated) :
    measuredLength c = some (8 * (c.samples.length - 1)) := by
  rcases h with h | h <;> rw [measuredLength, h] <;> rfl

theorem measuredLength_of_other {c : Car} (h : c.profile = .waiting ∨ c.profile = .measuring ∨ c.profile = .absent) :
    measuredLength c = none := by
  rcases h with h | h | h <;> rw [measuredLength, h]

/-! ## The statement -/

/-- Settles O49: the record of a car and of a ticket, and what a submission does to its bank. -/
theorem recordsAreStoredOrOverflow : Obligations.RecordsAreStoredOrOverflow := by
  refine ⟨?_, fun _ _ _ => rfl, ?_⟩
  · intro c kind s gone applied after
    refine ⟨removeCar_of_unrecorded kind, fun b hphantom hbank => ?_⟩
    have gone_layout (a : Fin 12) : layoutAt a gone = layoutAt a s := layoutAt_withoutCar a c s
    obtain ⟨hcomplete, hpartly⟩ := resolveOutcome_exit (serviceResults gone c)
    refine ⟨carRecord gone c kind applied, removeCar_of_recorded kind hphantom hbank, rfl, rfl, measuredLength_of_final,
      measuredLength_of_other, ?_, fun x hx => ?_, ?_, ?_, ?_, ?_, ?_⟩
    · simp [carRecord, serviceResults]
    · obtain ⟨y, -, rfl⟩ := List.mem_map.mp hx
      intro held unfinished
      have hheld (st : ArchStatus) : held st ↔ st ∈ serviceStatuses gone c y.service := by
        rw [mem_serviceStatuses]
        simp only [gone_layout]
        rfl
      simp only [unfinished, hheld]
      refine ⟨resolveService_of_omitted, fun homitted h => ?_, fun homitted h hdone => ?_⟩
      · obtain hs | hp | ha := h
        · exact resolveService_of_unfinished hs nofun homitted
        · exact resolveService_of_unfinished hp nofun homitted
        · exact resolveService_of_unfinished ha nofun homitted
      · refine resolveService_of_done hdone fun st hst => ?_
        cases st with
        | done => rfl
        | omitted => exact absurd hst homitted
        | skipped => exact absurd (.inl hst) h
        | pending => exact absurd (.inr (.inl hst)) h
        | active => exact absurd (.inr (.inr hst)) h
    · rintro rfl
      exact hcomplete
    · rintro rfl
      exact hpartly
    · rintro rfl
      rfl
    · rintro rfl
      rfl
    · rintro rfl
      rfl
  · intro b r s k t m
    have ht : t = { modifyBank b (Bank.submitted r) s with outbox := s.outbox ++ submitNotices b r k } := submit_eq b r s
    have hm : m = k.submitted r := (congrArg (bankAt b) ht).trans (bankAt_modifyBank_same b _ s)
    obtain ⟨hcounts, hrevenue, hheader⟩ := submitted_account r k
    rw [hm, ht, hcounts]
    refine ⟨get_modifyAt_same _ _ _, fun o ho => get_modifyAt_other _ _ _ _ ho, hrevenue, hheader,
      bankAt_modifyBank_other b _ s, fun hroom => ?_, fun hfull => ?_, ?_⟩
    · rw [Bank.submitted, if_pos hroom]
      refine ⟨rfl, rfl, rfl, rfl, rfl, ?_⟩
      simp only [submitNotices, if_pos hroom]
    · have hroom : ¬ k.written < 256 := not_lt.mpr hfull
      rw [Bank.submitted, if_neg hroom]
      refine ⟨rfl, rfl, rfl, rfl, fun hbefore => if_pos hbefore, fun rest last hfirst hrecords => ?_, ?_⟩
      · refine (if_neg (Bool.eq_false_iff.mp hfirst)).trans ?_
        rw [hrecords]
        exact changeLast_append _ rest last
      · simp only [submitNotices, if_neg hroom]
    · simp

end Sys2Proof.Machine
end

section
/-! SUPPORT. The roll of the part: who stands in the car table, and which ticket numbers stand in the queue. One lemma for each
operation that leaves both alone (R76, R108). -/

namespace Sys2Proof.Machine

/-! ## The roll -/

/-- What a car keeps from its admission to its removal: its number, whether it is the phantom, its ticket and its bank (R77). -/
def Car.identity (c : Car) : Nat × Bool × Option Nat × Option BankId := (c.number, c.phantom, c.ticket, c.bank)

/-- The cars of the table by identity, oldest first, and the numbers of the tickets in the queue. -/
def roll (s : State) : List (Nat × Bool × Option Nat × Option BankId) × List Nat :=
  (s.entry.table.map Car.identity, s.sales.tickets.map (·.number))

theorem roll_foldl {α : Type} (f : State → α → State) (h : ∀ s a, roll (f s a) = roll s) (l : List α) (s : State) :
    roll (l.foldl f s) = roll s :=
  List.foldlRecOn (motive := fun t => roll t = roll s) l f rfl fun t ht a _ => (h t a).trans ht

@[simp] theorem identity_addTag (t : Tag) (c : Car) : (c.addTag t).identity = c.identity := by
  unfold Car.addTag
  repeat' split
  all_goals rfl

@[simp] theorem identity_apply (k : Nat) (c : Car) : (c.apply k).identity = c.identity := by
  unfold Car.apply
  split <;> rfl

@[simp] theorem identity_holdTag (c : Car) : c.holdTag.identity = c.identity := by
  unfold Car.holdTag
  split
  · rfl
  · exact identity_addTag _ c

@[simp] theorem identity_shadowTag (a : Fin 12) (c : Car) : (c.shadowTag a).identity = c.identity := by
  unfold Car.shadowTag
  split
  · rfl
  · exact identity_addTag _ c

@[simp] theorem identity_wholeRequirements (s : State) (c : Car) : (wholeRequirements s c).identity = c.identity :=
  List.foldlRecOn (motive := fun d : Car => d.identity = c.identity) _ _ rfl fun _ hd _ _ => hd

variable (s : State)

/-! ## Plain updates -/

@[simp] theorem roll_modifyArch (a : Fin 12) (f : Arch → Arch) : roll (modifyArch a f s) = roll s := rfl
@[simp] theorem roll_modifyLink (l : Fin 4) (f : Link → Link) : roll (modifyLink l f s) = roll s := rfl
@[simp] theorem roll_raise (c : Cause) : roll (raise c s) = roll s := rfl
@[simp] theorem roll_notify (t : NoticeType) (b : List Byte) : roll (notify t b s) = roll s := rfl
@[simp] theorem roll_notifyLink (l : Fin 4) (b : List Byte) : roll (notifyLink l b s) = roll s := rfl
@[simp] theorem roll_markDirty : roll (markDirty s) = roll s := rfl
@[simp] theorem roll_watching (w : Watch) : roll (watching w s) = roll s := rfl
@[simp] theorem roll_forget : roll (forget s) = roll s := rfl
@[simp] theorem roll_setSignal (l : Fin 3) (go : Bool) : roll (setSignal l go s) = roll s := rfl
@[simp] theorem roll_modifyHalt (f : HaltRecord → HaltRecord) : roll (modifyHalt f s) = roll s := rfl
@[simp] theorem roll_pulseRoller : roll (pulseRoller s) = roll s := rfl
@[simp] theorem roll_setAvailability : roll (setAvailability s) = roll s := rfl
@[simp] theorem roll_handDown (c : Nat) : roll (handDown c s) = roll s := rfl
@[simp] theorem roll_modifyBank (b : BankId) (f : Bank → Bank) : roll (modifyBank b f s) = roll s := by cases b <;> rfl

@[simp] theorem roll_evaluateRun : roll (evaluateRun s) = roll s := by
  unfold evaluateRun
  repeat' split
  all_goals rfl

/-- Changing tickets one by one, none in its number. -/
theorem roll_mapTickets (f : Ticket → Ticket) (hf : ∀ t, (f t).number = t.number) :
    roll { s with sales.tickets := s.sales.tickets.map f } = roll s := by
  simp [roll, Function.comp_def, hf]

theorem roll_modifyTicket (n : Nat) (f : Ticket → Ticket) (hf : ∀ t, (f t).number = t.number) :
    roll (modifyTicket n f s) = roll s :=
  roll_mapTickets s _ fun t => by split <;> simp [hf]

/-- Changing cars one by one, none in its identity. -/
theorem roll_mapTable (f : Car → Car) (hf : ∀ c, (f c).identity = c.identity) :
    roll { s with entry.table := s.entry.table.map f } = roll s := by
  simp [roll, Function.comp_def, hf]

theorem roll_modifyCar (n : Nat) (f : Car → Car) (hf : ∀ c, (f c).identity = c.identity) : roll (modifyCar n f s) = roll s :=
  roll_mapTable s _ fun c => by split <;> simp [hf]

@[simp] theorem roll_markHalt (n : Nat) : roll (markHalt n s) = roll s := roll_mapTable s _ fun _ => rfl

/-! ## Cars and their classes -/

@[simp] theorem roll_tagCar (n : Nat) (t : Tag) : roll (tagCar n t s) = roll s := roll_modifyCar s n _ (identity_addTag t)
@[simp] theorem roll_setStatus (n : Nat) (a : Fin 12) (st : ArchStatus) : roll (setStatus n a st s) = roll s :=
  roll_modifyCar s n _ fun _ => rfl

@[simp] theorem roll_recomputeClass : roll (recomputeClass s) = roll s := roll_mapTable (handDown _ s) _ (identity_apply _)

@[simp] theorem roll_setClass (n k : Nat) : roll (setClass n k s) = roll s := by
  unfold setClass
  split
  · rfl
  · split
    · rfl
    · exact (roll_recomputeClass _).trans (roll_modifyCar s n _ fun _ => rfl)

@[simp] theorem roll_computeClass (n : Nat) : roll (computeClass n s) = roll s := by
  unfold computeClass
  split
  · rfl
  · split <;> simp

@[simp] theorem roll_paceSample (n : Nat) : roll (paceSample n s) = roll s := by
  unfold paceSample
  split
  · rfl
  · split
    · simp
    · exact (roll_computeClass _ n).trans (roll_modifyCar s n _ fun _ => rfl)

@[simp] theorem roll_joinDomain (n : Nat) : roll (joinDomain n s) = roll s := by
  unfold joinDomain
  split
  · rfl
  · split
    · rfl
    · exact (roll_recomputeClass _).trans (roll_modifyCar s n _ fun _ => rfl)

@[simp] theorem roll_statusSettled (n : Nat) : roll (statusSettled n s) = roll s := by
  unfold statusSettled
  split
  · rfl
  · split
    · exact (roll_recomputeClass _).trans (roll_modifyCar s n _ fun _ => rfl)
    · rfl


@[simp] theorem roll_handStatus (a : Fin 12) (n : Nat) : roll (handStatus a n s) = roll s := by
  unfold handStatus
  split <;> simp

/-! ## Arches -/

@[simp] theorem roll_startReturn (a : Fin 12) : roll (startReturn a s) = roll s := rfl
@[simp] theorem roll_archNotice (r : ArchReason) (a : Fin 12) : roll (archNotice r a s) = roll s := rfl
@[simp] theorem roll_insertEvent (a : Fin 12) (e : ArchEvent) : roll (insertEvent a e s) = roll s := rfl

@[simp] theorem roll_reevaluate (r : AvailabilityReason) : roll (reevaluate r s) = roll s :=
  (roll_foldl _ (fun u _ => roll_notify u _ _) _ _).trans (roll_foldl _ (fun u _ => roll_notify u _ _) _ _)

@[simp] theorem roll_insertEngages (n : Nat) : roll (insertEngages n s) = roll s := by
  unfold insertEngages
  split
  · rfl
  · split
    · rfl
    · exact roll_foldl _ (fun t a => roll_insertEvent t a _) _ s

@[simp] theorem roll_insertReleases (n : Nat) : roll (insertReleases n s) = roll s := by
  unfold insertReleases
  split
  · rfl
  · split
    · rfl
    · exact roll_foldl _ (fun t a => roll_insertEvent t a _) _ s

@[simp] theorem roll_insertAbsent (n : Nat) : roll (insertAbsent n s) = roll s := by
  unfold insertAbsent
  split
  · rfl
  · split
    · rfl
    · exact (roll_foldl _ (fun t a => by simp) _ _).trans (roll_foldl _ (fun t a => roll_setStatus t n a _) _ s)

@[simp] theorem roll_purgeArch (n : Nat) (a : Fin 12) : roll (purgeArch n s a) = roll s := by
  unfold purgeArch
  dsimp only
  split <;> simp

@[simp] theorem roll_purgeCar (n : Nat) : roll (purgeCar n s) = roll s :=
  roll_foldl _ (fun s a => roll_purgeArch s n a) _ s

@[simp] theorem roll_clearArch (a : Fin 12) : roll (clearArch s a) = roll s := by
  unfold clearArch
  dsimp only
  split <;> simp

@[simp] theorem roll_withdraw (a : Fin 12) : roll (withdraw s a) = roll s := by
  unfold withdraw
  dsimp only
  split
  · split <;> simp
  · rfl

@[simp] theorem roll_withdrawAll : roll (withdrawAll s) = roll s := roll_foldl _ roll_withdraw _ s

@[simp] theorem roll_fireEngage (a : Fin 12) (n : Nat) : roll (fireEngage a n s) = roll s := by
  unfold fireEngage
  split
  · rfl
  · dsimp only
    repeat' split
    all_goals simp

@[simp] theorem roll_fireRelease (a : Fin 12) (n : Nat) : roll (fireRelease a n s) = roll s := by
  have hreturn : roll (if (archAt a s).engaged = some n then startReturn a s else s) = roll s := by split <;> rfl
  unfold fireRelease
  dsimp only
  split
  · exact hreturn
  · split
    · simpa using hreturn
    · exact hreturn

theorem roll_fireEvent (a : Fin 12) (e : ArchEvent) : roll (fireEvent a s e) = roll s := by
  unfold fireEvent
  split <;> simp

@[simp] theorem roll_fireDue (a : Fin 12) (p : Pos) (before : List ArchEvent) : roll (fireDue a p before s) = roll s :=
  (roll_foldl _ (fun t e => roll_fireEvent t a e) _ _).trans rfl

@[simp] theorem roll_tripsOut (a : Fin 12) : roll (tripsOut a s) = roll s := by
  unfold tripsOut
  split <;> simp

@[simp] theorem roll_trip (a : Fin 12) (n : Nat) : roll (trip a n s) = roll s := by
  unfold trip
  dsimp only
  split <;> simp

@[simp] theorem roll_loadCheck (a : Fin 12) : roll (loadCheck a s) = roll s := by
  unfold loadCheck
  dsimp only
  split
  · rfl
  · split
    · rfl
    · split <;> simp

@[simp] theorem roll_writeTrace (a : Fin 12) (p : Pos) (f : Followed) : roll (writeTrace a p f s) = roll s := by
  unfold writeTrace
  split <;> rfl

@[simp] theorem roll_afterFollow (a : Fin 12) (n : Nat) (p : Pos) (f : Followed) :
    roll (afterFollow a n p f s) = roll s := by
  unfold afterFollow
  dsimp only
  split
  · split
    · exact (roll_modifyCar _ n _ (identity_shadowTag a)).trans (roll_writeTrace s a p f)
    · exact roll_writeTrace s a p f
  · split <;> rfl

@[simp] theorem roll_followStep (a : Fin 12) (p : Pos) (settle : Nat) : roll (followStep a p settle s) = roll s := by
  unfold followStep
  dsimp only
  repeat' split
  all_goals simp

theorem roll_archPitch (a : Fin 12) (p : Pos) (settle : Nat) (before : List ArchEvent) :
    roll (archPitch a p settle before s) = roll s := by
  simp [archPitch]

/-! ## The station -/

@[simp] theorem roll_finishProfile (n : Nat) (final : ProfileState) : roll (finishProfile n final s) = roll s :=
  (roll_insertReleases _ n).trans (roll_modifyCar s n _ fun _ => rfl)

@[simp] theorem roll_dropTrailing (n : Nat) : roll (dropTrailing n s) = roll s := roll_modifyCar s n _ fun _ => rfl

@[simp] theorem roll_makeAbsent (n : Nat) : roll (makeAbsent n s) = roll s := by
  have hmarked :
      roll (modifyCar n (fun c => { c.addTag .noProfile with profile := .absent, origin := some c.anchor }) s) = roll s :=
    roll_modifyCar s n _ (identity_addTag _)
  unfold makeAbsent
  dsimp only
  split <;> simp [hmarked]

@[simp] theorem roll_setOrigin (n : Nat) (p : Pos) (top : Nat) (g : GaugeCodes) :
    roll (setOrigin n p top g s) = roll s := by
  have hheld : roll (modifyCar n Car.holdTag s) = roll s := roll_modifyCar s n _ identity_holdTag
  unfold setOrigin
  simp only [roll_joinDomain, roll_computeClass, roll_insertEngages, roll_watching]
  refine (roll_modifyCar _ n _ ?_).trans ?_
  · exact fun _ => rfl
  · split
    · exact hheld
    · rfl

@[simp] theorem roll_searchPitch (n : Nat) (p : Pos) (g : GaugeCodes) : roll (searchPitch n p g s) = roll s := by
  unfold searchPitch
  dsimp only
  repeat' split
  all_goals simp

@[simp] theorem roll_appendSample (n : Nat) (x : Sample) : roll (appendSample n x s) = roll s :=
  (roll_paceSample _ n).trans (roll_modifyCar s n _ fun _ => rfl)

@[simp] theorem roll_handleSample (n : Nat) (first : Pos) (next : Nat) (absent : Bool) (x : Sample) :
    roll (handleSample n first next absent x s) = roll s := by
  unfold handleSample
  repeat' split
  all_goals simp

@[simp] theorem roll_samplePitchStep (n : Nat) (first : Pos) (next : Nat) (absent : Bool) (last : Sample) (p : Pos)
    (g : GaugeCodes) : roll (samplePitchStep n first next absent last p g s) = roll s := by
  unfold samplePitchStep
  dsimp only
  split
  · rw [roll_handleSample]
    split
    · exact roll_modifyCar s n _ identity_holdTag
    · rfl
  · rfl

theorem roll_stationPitch (p : Pos) (g : GaugeCodes) : roll (stationPitch p g s) = roll s := by
  unfold stationPitch
  split <;> simp

@[simp] theorem roll_settleWatched : roll (settleWatched s) = roll s := by
  unfold settleWatched
  split
  · rfl
  · simp
  · dsimp only
    split <;> simp

@[simp] theorem roll_unwatch (n : Nat) : roll (unwatch n s) = roll s := by
  unfold unwatch
  repeat' split
  all_goals simp

/-! ## The journal and the tickets -/

@[simp] theorem roll_journalNotice (kind : Nat) (b : BankId) (contents : List Byte) :
    roll (journalNotice kind b contents s) = roll s := rfl

@[simp] theorem roll_ticketNotice (k : TicketNoticeKind) (t : Ticket) (left : Nat) (more : List Byte) :
    roll (ticketNotice k t left more s) = roll s := rfl

@[simp] theorem roll_submit (b : BankId) (r : JournalRecord) : roll (submit b r s) = roll s := by
  unfold submit
  dsimp only
  repeat' split
  all_goals simp

@[simp] theorem roll_submitTicket (t : Ticket) (o : WashOutcome) : roll (submitTicket t o s) = roll s := by
  simp [submitTicket]

@[simp] theorem roll_sealedNotice (b : BankId) : roll (sealedNotice b s) = roll s := rfl

@[simp] theorem roll_sealIfDrained (b : BankId) : roll (sealIfDrained b s) = roll s := by
  unfold sealIfDrained
  split <;> simp

@[simp] theorem roll_submitCar (c : Car) (k : RemovalKind) (applied : Nat) : roll (submitCar c k applied s) = roll s := by
  unfold submitCar
  split <;> simp

@[simp] theorem roll_countAdmitted (b : BankId) : roll (countAdmitted b s) = roll s := roll_modifyBank s b _

@[simp] theorem roll_payTicket (t : Ticket) (tender : Option Tender) (lapses : Nat) :
    roll (payTicket t tender lapses s) = roll s := roll_modifyTicket _ t.number _ fun _ => rfl

/-! ## The Supervisor and the links -/

@[simp] theorem roll_endRehearsal (e : RunEnding) (c : Car) : roll (endRehearsal e c s) = roll s := rfl

@[simp] theorem roll_abandonRehearsal (n : Nat) : roll (abandonRehearsal n s) = roll s := by
  unfold abandonRehearsal
  split
  · split <;> simp
  · rfl

@[simp] theorem roll_furtherCause (c : Cause) : roll (furtherCause c s) = roll s := rfl

@[simp] theorem roll_endHalt (e : HaltEnding) : roll (endHalt e s) = roll s := by
  unfold endHalt
  split <;> rfl

@[simp] theorem roll_missingPitch (p : Pos) : roll (missingPitch p s) = roll s := by
  unfold missingPitch
  split
  · rfl
  · split
    · exact roll_modifyCar s _ _ fun _ => rfl
    · rfl

@[simp] theorem roll_flush : roll (flush s) = roll s := by
  obtain ⟨links, -, h⟩ := flush_frame s
  rw [h]
  rfl

@[simp] theorem roll_answer (l : Fin 4) (kind : Byte) (x : State × Reply) : roll (answer l kind x) = roll x.1 := by
  obtain ⟨links, -, h⟩ := answer_frame l kind x
  rw [h]
  rfl

end Sys2Proof.Machine
end

section
/-! SUPPORT. The roll under operations by which cars and tickets leave it (R83, R96, R109, R131, R160): nobody joins it. -/

namespace Sys2Proof.Machine

variable {s t u : State}

/-! ## A roll that nobody joins -/

/-- Cars and tickets may have left the roll; none has joined it. -/
structure RollShrinks (s t : State) : Prop where
  cars : (roll t).1.Sublist (roll s).1
  tickets : (roll t).2.Sublist (roll s).2

theorem RollShrinks.of_roll (h : roll t = roll s) : RollShrinks s t := ⟨by rw [h], by rw [h]⟩

theorem RollShrinks.refl (s : State) : RollShrinks s s := .of_roll rfl

theorem RollShrinks.trans (h : RollShrinks s t) (k : RollShrinks t u) : RollShrinks s u :=
  ⟨k.cars.trans h.cars, k.tickets.trans h.tickets⟩

theorem RollShrinks.then_roll (h : RollShrinks s t) (hr : roll u = roll t) : RollShrinks s u := h.trans (.of_roll hr)

theorem RollShrinks.after_roll (k : RollShrinks t u) (hr : roll t = roll s) : RollShrinks s u := (RollShrinks.of_roll hr).trans k

theorem RollShrinks.foldl {α : Type} (f : State → α → State) (h : ∀ s a, RollShrinks s (f s a)) (l : List α) (s : State) :
    RollShrinks s (l.foldl f s) :=
  List.foldlRecOn (motive := RollShrinks s) l f (.refl s) fun t ht a _ => ht.trans (h t a)

/-! ## Removals and the tunnel's changes -/

@[simp] theorem roll_changeTunnel (new : TunnelState) (r : ChangeReason) (n : Nat) (more : List Byte) (s : State) :
    roll (changeTunnel new r n more s) = roll s := rfl
@[simp] theorem roll_restartStep (new : TunnelState) (r : ChangeReason) (n : Nat) (more : List Byte) (s : State) :
    roll (restartStep new r n more s) = roll s := rfl
@[simp] theorem roll_endAttempt (r : ChangeReason) (more : List Byte) (s : State) : roll (endAttempt r more s) = roll s := rfl
@[simp] theorem roll_endCall (k : Call) (s : State) : roll (endCall k s) = roll s := rfl

@[simp] theorem roll_closeIfEmpty (s : State) : roll (closeIfEmpty s) = roll s := by
  unfold closeIfEmpty
  split <;> simp

/-- A removal takes the cars of one number out of the roll, and no ticket (R96). -/
theorem roll_removeCar (c : Car) (k : RemovalKind) (s : State) :
    roll (removeCar c k s) = ((roll s).1.filter fun i => i.1 != c.number, (roll s).2) := by
  have hleft : roll { s with entry.table := s.entry.table.filter fun k => k.number != c.number }
      = ((roll s).1.filter fun i => i.1 != c.number, (roll s).2) := by
    simp [roll, List.filter_map, Function.comp_def, Car.identity]
  rw [← hleft]
  unfold removeCar
  dsimp only
  split <;> simp

theorem removeCar_shrinks (c : Car) (k : RemovalKind) (s : State) : RollShrinks s (removeCar c k s) := by
  constructor <;> rw [roll_removeCar]
  exact List.filter_sublist

theorem removeAll_shrinks (k : RemovalKind) (s : State) : RollShrinks s (removeAll k s) :=
  RollShrinks.foldl _ (fun _ _ => removeCar_shrinks _ k _) _ s

/-- A ticket that leaves the queue takes its number with it (R109). -/
theorem roll_dropTicket (n : Nat) (s : State) : roll (dropTicket n s) = ((roll s).1, (roll s).2.filter (· != n)) := by
  simp [roll, dropTicket, List.filter_map, Function.comp_def]

theorem dropTicket_shrinks (n : Nat) (s : State) : RollShrinks s (dropTicket n s) := by
  constructor <;> rw [roll_dropTicket]
  exact List.filter_sublist

/-! ## Calls -/

@[simp] theorem roll_issueCall (t : Ticket) (s : State) : roll (issueCall t s) = roll s := by
  have hcalled : roll (modifyTicket t.number (fun t => { t with state := .called }) s) = roll s :=
    roll_modifyTicket s t.number _ fun _ => rfl
  unfold issueCall
  dsimp only
  rw [roll_evaluateRun, roll_ticketNotice, roll_setSignal]
  exact hcalled

@[simp] theorem roll_arbitrateWith (gap : Bool) (s : State) : roll (arbitrateWith gap s) = roll s := by
  unfold arbitrateWith
  split
  · split <;> simp
  · rfl

@[simp] theorem roll_arbitrate (s : State) : roll (arbitrate s) = roll s := roll_arbitrateWith _ s

@[simp] theorem roll_cancelCall (s : State) : roll (cancelCall s) = roll s := by
  unfold cancelCall
  split
  · rfl
  · dsimp only
    split
    · rfl
    · exact (roll_modifyTicket (endCall _ s) _ (fun t => { t with state := .paid }) fun _ => rfl).trans rfl

@[simp] theorem roll_forgetTicket (n : Nat) (s : State) : roll (forgetTicket n s) = roll s := by
  unfold forgetTicket
  repeat' split
  all_goals rfl

@[simp] theorem roll_releaseRemembered (n : Nat) (s : State) : roll (releaseRemembered n s) = roll s := by
  unfold releaseRemembered
  repeat' split
  all_goals simp

/-! ## Causes -/

theorem dropPhantom_shrinks (s : State) : RollShrinks s (dropPhantom s) := by
  unfold dropPhantom
  split
  · exact .refl s
  · exact removeCar_shrinks _ _ s

theorem firstCause_shrinks (c : Cause) (s : State) : RollShrinks s (firstCause c s) := by
  have habandoned : RollShrinks s (abandonRehearsal (newHalt c s).number s) := .of_roll (by simp)
  unfold firstCause
  dsimp only
  refine RollShrinks.then_roll (RollShrinks.trans ?_ (dropPhantom_shrinks _)) (roll_evaluateRun _)
  refine habandoned.then_roll ?_
  simp only [roll_forget, roll_cancelCall, roll_withdrawAll, roll_markHalt, roll_changeTunnel]
  rfl

theorem takeCause_shrinks (c : Cause) (s : State) : RollShrinks s (takeCause c s) := by
  unfold takeCause
  split
  · exact .of_roll (roll_furtherCause s c)
  · exact .of_roll (by simp)
  all_goals exact firstCause_shrinks c s

theorem takeCauses_shrinks (s : State) : RollShrinks s (takeCauses s) :=
  RollShrinks.trans (t := { s with raised := [] }) (.of_roll rfl)
    (RollShrinks.foldl (fun t c => takeCause c t) (fun t c => takeCause_shrinks c t) s.raised _)

/-! ## Pitches -/

theorem rehearsalPitch_shrinks (p : Pos) (s : State) : RollShrinks s (rehearsalPitch p s) := by
  unfold rehearsalPitch
  split
  · split
    · exact .refl s
    next c _ => exact (removeCar_shrinks c .cleared s).then_roll (by simp)
  · exact .refl s

theorem controlPitch_shrinks (p : Pos) (s : State) : RollShrinks s (controlPitch p s) :=
  (rehearsalPitch_shrinks p _).after_roll ((roll_missingPitch _ p).trans rfl)

theorem blockActs_shrinks (e : PitchEvent) (x : State × Bool) (b : PitchBlock) : RollShrinks x.1 (blockActs e x b).1 := by
  cases b with
  | station => exact .of_roll (roll_stationPitch x.1 e.position e.gauges)
  | arch a => exact .of_roll (roll_archPitch x.1 a e.position e.settle (e.before.get a))
  | entryExit => exact controlPitch_shrinks e.position x.1
  | supervisor => exact takeCauses_shrinks x.1

theorem forwardPitch_shrinks (g : GaugeCodes) (order : List PitchBlock) (s : State) : RollShrinks s (forwardPitch g order s) := by
  refine RollShrinks.then_roll (RollShrinks.trans ?_ (takeCauses_shrinks _)) (roll_arbitrateWith _ _)
  exact List.foldlRecOn (motive := fun x : State × Bool => RollShrinks s x.1) _ _ (.of_roll rfl)
    fun x hx b _ => hx.trans (blockActs_shrinks _ x b)

theorem encoderChange_shrinks (phase : Fin 4) (g : GaugeCodes) (order : List PitchBlock) (s : State) :
    RollShrinks s (encoderChange phase g order s) := by
  unfold encoderChange
  dsimp only
  split
  · exact .of_roll rfl
  · exact (forwardPitch_shrinks g order _).after_roll rfl
  · exact (takeCause_shrinks _ _).after_roll rfl
  · unfold reversePitch
    dsimp only
    split
    · exact (takeCause_shrinks _ _).after_roll rfl
    · exact .of_roll rfl

/-! ## Line events and expiries -/

theorem exitFront_shrinks (s : State) : RollShrinks s (exitFront s) := by
  unfold exitFront
  split
  · exact (removeCar_shrinks _ .exit s).then_roll (roll_arbitrate _)
  · unfold exitStray
    split
    · exact .of_roll (roll_modifyHalt s _)
    · exact takeCause_shrinks _ s

theorem exitClosing_shrinks (s : State) : RollShrinks s (exitClosing s) := by
  have hfront : RollShrinks s (exitFront { s with entry.exitClosed := true }) := (exitFront_shrinks _).after_roll rfl
  unfold exitClosing
  dsimp only
  split
  · exact .of_roll rfl
  · exact hfront.then_roll rfl

theorem returnExpires_shrinks (a : Fin 12) (s : State) : RollShrinks s (returnExpires a s) := by
  have hjammed : RollShrinks s (takeCause (.archJam a) (modifyArch a (fun x => { x with phase := .jammed, timer := none }) s)) :=
    (takeCause_shrinks (.archJam a) _).after_roll (roll_modifyArch s a _)
  unfold returnExpires jam
  split
  · exact hjammed.then_roll (by simp)
  · exact .refl s

theorem stallExpires_shrinks (s : State) : RollShrinks s (stallExpires s) := by
  unfold stallExpires
  split
  · exact (takeCause_shrinks _ _).after_roll rfl
  · exact .refl s

theorem estopChange_shrinks (asserted : Bool) (s : State) : RollShrinks s (estopChange asserted s) := by
  unfold estopChange
  dsimp only
  split
  · exact (takeCause_shrinks _ _).after_roll rfl
  · exact .of_roll rfl

theorem roll_lapseTicket (t : Ticket) (s : State) : roll (lapseTicket t s) = roll s := by
  unfold lapseTicket
  dsimp only
  split <;> exact roll_modifyTicket s _ _ fun _ => rfl

theorem roll_callLapses (s : State) : roll (callLapses s) = roll s := by
  unfold callLapses
  split
  · rfl
  · split
    · refine (roll_evaluateRun _).trans ?_
      split
      · rfl
      · exact roll_lapseTicket _ s
    · rfl

theorem roll_graceExpires (s : State) : roll (graceExpires s) = roll s := by
  unfold graceExpires
  split <;> simp

theorem holdExpires_shrinks (n : Nat) (s : State) : RollShrinks s (holdExpires n s) := by
  unfold holdExpires
  split
  · exact .refl s
  · split
    · exact (dropTicket_shrinks n s).then_roll rfl
    · exact .refl s

theorem roll_windowExpires (s : State) : roll (windowExpires s) = roll s := by
  unfold windowExpires
  split <;> simp

theorem roll_saveReported (passed : Bool) (s : State) : roll (saveReported passed s) = roll s := by
  unfold saveReported
  split <;> rfl

theorem roll_saveExpires (verified : Bool) (s : State) : roll (saveExpires verified s) = roll s := by
  unfold saveExpires
  repeat' split
  all_goals rfl

theorem roll_pulseEnds (s : State) : roll (pulseEnds s) = roll s := by
  unfold pulseEnds
  split <;> rfl

theorem roll_treadleOpens (t : Treadle) (s : State) : roll (treadleOpens t s) = roll s := by cases t <;> rfl

theorem roll_passUnit (s : State) : roll (passUnit s) = roll s := roll_mapTickets s _ fun _ => rfl

/-! ## Starts and the supply -/

/-- A start leaves nobody on the roll (R74, R98, R123). -/
theorem roll_startedBlocks (lines : LineLevels) (s : State) : roll (startedBlocks lines s) = ([], []) := rfl

theorem roll_start (lines : LineLevels) (s : State) : roll (start lines s) = ([], []) := by
  cases he : lines.estop with
  | false => rw [start_of_released lines s he, roll_startedBlocks]
  | true =>
    obtain ⟨body, hbody⟩ := takeCause_of_atRest .estop (startedBlocks_atRest lines s)
    rw [start_of_asserted lines s he, hbody]
    rfl

end Sys2Proof.Machine
end

section
/-! SUPPORT. The roll under the requests (R174): a QUOTE alone adds a ticket to it, and a REHEARSE alone a car. -/

namespace Sys2Proof.Machine

variable {s : State}

/-- No test fails exactly when each passes. -/
theorem firstFailed_eq_none (tests : List (Bool × Status)) : firstFailed tests = none ↔ ∀ x ∈ tests, x.1 = false := by
  induction tests with
  | nil => simp [firstFailed]
  | cons x rest ih =>
    obtain ⟨failed, st⟩ := x
    cases failed <;> simp [firstFailed, ih]

/-! ## Requests of the Sales Unit -/

theorem roll_confirmRequest (l : Fin 4) (n tender : Nat) (s : State) : roll (confirmRequest l n tender s).1 = roll s := by
  unfold confirmRequest
  repeat' split
  all_goals simp

theorem cancelRequest_shrinks (l : Fin 4) (n : Nat) (s : State) : RollShrinks s (cancelRequest l n s).1 := by
  unfold cancelRequest
  split
  · exact .refl s
  · exact dropTicket_shrinks n s

theorem voidTicket_shrinks (t : Ticket) (s : State) : RollShrinks s (voidTicket t s) := by
  refine (dropTicket_shrinks t.number s).then_roll ?_
  unfold voidTicket
  dsimp only
  split <;> simp

theorem voidRequest_shrinks (l : Fin 4) (n : Nat) (s : State) : RollShrinks s (voidRequest l n s).1 := by
  unfold voidRequest
  split
  · exact .refl s
  · exact .refl s
  · exact voidTicket_shrinks _ s

theorem roll_requeueRequest (l : Fin 4) (n : Nat) (s : State) : roll (requeueRequest l n s).1 = roll s := by
  unfold requeueRequest requeueTicket
  split
  · rfl
  · rfl
  · simp
    rfl

/-! ## Requests of the tunnel -/

theorem haltRequest_shrinks (l : Fin 4) (s : State) : RollShrinks s (haltRequest l s).1 := by
  unfold haltRequest
  split
  · exact .refl s
  · exact takeCause_shrinks _ s

theorem pullCarRequest_shrinks (l : Fin 4) (n : Nat) (s : State) : RollShrinks s (pullCarRequest l n s).1 := by
  unfold pullCarRequest
  split
  · exact .refl s
  · exact .refl s
  next c _ _ => exact (removeCar_shrinks c .pulled s).then_roll (by simp)

theorem clearTunnel_shrinks (s : State) : RollShrinks s (clearTunnel s) := by
  have harches (t : State) : roll (allArches.foldl clearArch t) = roll t := roll_foldl clearArch roll_clearArch allArches t
  have hcleared : RollShrinks s (allArches.foldl clearArch (removeAll .cleared s)) :=
    (removeAll_shrinks .cleared s).then_roll (harches _)
  unfold clearTunnel
  dsimp only
  split
  · exact hcleared.then_roll (by simp)
  · exact hcleared.then_roll (roll_endHalt _ _)

theorem clearTunnelRequest_shrinks (l : Fin 4) (s : State) : RollShrinks s (clearTunnelRequest l s).1 := by
  unfold clearTunnelRequest
  split
  · exact .refl s
  · dsimp only
    exact clearTunnel_shrinks s

@[simp] theorem roll_enterOpen (s : State) : roll (enterOpen s) = roll s := by simp [enterOpen]

theorem roll_openTunnelRequest (l : Fin 4) (s : State) : roll (openTunnelRequest l s).1 = roll s := by
  unfold openTunnelRequest openUnderHalt setResume
  repeat' split
  all_goals simp

theorem roll_closeTunnelRequest (l : Fin 4) (s : State) : roll (closeTunnelRequest l s).1 = roll s := by
  unfold closeTunnelRequest closeUnderHalt closeFromOpen setResume
  repeat' split
  all_goals simp

theorem roll_resumeTunnel (first second : Fin 4) (s : State) : roll (resumeTunnel first second s) = roll s := by
  have hafter (t : State) : roll (afterResume t) = roll t := by
    unfold afterResume
    split <;> simp
  unfold resumeTunnel
  simp only [hafter, roll_restartStep, roll_endHalt]
  rfl

theorem roll_restartRequest (l : Fin 4) (s : State) : roll (restartRequest l s).1 = roll s := by
  have hconfirm : roll (confirmRestart l s).1 = roll s := by
    unfold confirmRestart
    split
    · rfl
    · split
      · rfl
      · split
        · exact roll_resumeTunnel _ _ s
        · rfl
  unfold restartRequest
  split
  · rfl
  · split
    · rfl
    · exact hconfirm
    all_goals rfl

/-! ## Requests of the arches, the catalog, the site and the journal -/

theorem roll_setArchRequest (l : Fin 4) (n : Nat) (record : LayoutArg) (s : State) :
    roll (setArchRequest l n record s).1 = roll s := by
  unfold setArchRequest
  split
  · rfl
  · rfl
  · rfl
  · split
    · exact (roll_reevaluate _ _).trans rfl
    · rfl

theorem roll_takeOut (a : Fin 12) (s : State) : roll (takeOut a s) = roll s := by
  unfold takeOut
  dsimp only
  split
  · split <;> simp
  · rfl

theorem roll_setArchServiceRequest (l : Fin 4) (n setting : Nat) (s : State) :
    roll (setArchServiceRequest l n setting s).1 = roll s := by
  unfold setArchServiceRequest setService
  split
  · rfl
  · rfl
  · rfl
  next a out _ _ _ =>
    dsimp only
    split
    · rfl
    · refine (roll_reevaluate _ _).trans ((roll_archNotice _ _ _).trans ?_)
      split
      · exact roll_takeOut a s
      · rfl

theorem roll_clearJamRequest (l : Fin 4) (n : Nat) (s : State) : roll (clearJamRequest l n s).1 = roll s := by
  unfold clearJamRequest clearJam
  split <;> simp

theorem roll_editPlanRequest (l : Fin 4) (n : Nat) (p : Plan) (s : State) : roll (editPlanRequest l n p s).1 = roll s := by
  unfold editPlanRequest
  split
  · rfl
  · exact roll_reevaluate _ _

theorem roll_editExtraRequest (l : Fin 4) (n : Nat) (e : Extra) (s : State) : roll (editExtraRequest l n e s).1 = roll s := by
  unfold editExtraRequest
  split
  · rfl
  · exact roll_reevaluate _ _

theorem roll_editDiscountRequest (l : Fin 4) (n : Nat) (r : DiscountArg) (s : State) :
    roll (editDiscountRequest l n r s).1 = roll s := by
  unfold editDiscountRequest
  split
  · rfl
  · rfl
  · exact roll_reevaluate _ _

theorem roll_editServiceRequest (l : Fin 4) (n : Nat) (name : List Byte) (s : State) :
    roll (editServiceRequest l n name s).1 = roll s := by
  unfold editServiceRequest
  split
  · rfl
  · exact roll_reevaluate _ _

theorem roll_lockRangeRequest (l : Fin 4) (first last : Nat) (s : State) : roll (lockRangeRequest l first last s).1 = roll s := by
  unfold lockRangeRequest
  split <;> rfl

theorem roll_setGaugeRequest (l : Fin 4) (gauge first : Nat) (values : List Nat) (s : State) :
    roll (setGaugeRequest l gauge first values s).1 = roll s := by
  unfold setGaugeRequest
  split <;> rfl

theorem roll_setSiteRequest (l : Fin 4) (p : Site) (s : State) : roll (setSiteRequest l p s).1 = roll s := by
  unfold setSiteRequest
  split
  · rfl
  · exact (roll_recomputeClass _).trans rfl

theorem roll_setTestProfileRequest (l : Fin 4) (profile length first : Nat) (samples : List Sample) (s : State) :
    roll (setTestProfileRequest l profile length first samples s).1 = roll s := by
  unfold setTestProfileRequest takePiece
  dsimp only
  repeat' split
  all_goals rfl

theorem roll_setAccessRequest (l : Fin 4) (target : Nat) (e : Access) (s : State) :
    roll (setAccessRequest l target e s).1 = roll s := by
  unfold setAccessRequest
  split <;> rfl

theorem roll_saveStoreRequest (l : Fin 4) (s : State) : roll (saveStoreRequest l s).1 = roll s := by
  unfold saveStoreRequest
  split <;> rfl

theorem roll_closeoutRequest (l : Fin 4) (s : State) : roll (closeoutRequest l s).1 = roll s := by
  unfold closeoutRequest closeBank
  dsimp only
  repeat' split
  all_goals simp

theorem roll_readJournalRequest (l : Fin 4) (bank : Nat) (first : Option Nat) (s : State) :
    roll (readJournalRequest l bank first s).1 = roll s := by
  unfold readJournalRequest
  repeat' split
  all_goals simp

theorem roll_releaseBankRequest (l : Fin 4) (bank : Nat) (s : State) : roll (releaseBankRequest l bank s).1 = roll s := by
  unfold releaseBankRequest releaseBank
  split <;> simp

/-! ## The two requests by which the roll grows -/

/-- A ticket joins the queue at its tail (R112). -/
theorem roll_joinQueue (t : Ticket) (s : State) : roll (joinQueue t s) = ((roll s).1, (roll s).2 ++ [t.number]) := by
  simp [roll, joinQueue]

/-- A QUOTE adds the next free ticket number where there is room for one more ticket, or leaves the roll alone (R108, R111). -/
theorem roll_quoteRequest (l : Fin 4) (plan : Nat) (extras : List Nat) (slot lane : Option Nat) (s : State) :
    roll (quoteRequest l plan extras slot lane s).1 = roll s ∨
      s.sales.tickets.length < maxTickets ∧
        roll (quoteRequest l plan extras slot lane s).1 = ((roll s).1, (roll s).2 ++ [nextTicketNumber s]) := by
  unfold quoteRequest
  split
  · exact .inl rfl
  · exact .inl rfl
  next n htests _ =>
    refine .inr ⟨?_, roll_joinQueue _ s⟩
    by_contra hfull
    have hroom := (firstFailed_eq_none _).mp htests (decide (maxTickets ≤ s.sales.tickets.length), .queueFull) (by simp)
    simp [not_lt.mp hfull] at hroom

/-- The phantom car joins at the end of the table, without a ticket (R164). -/
theorem roll_createPhantom (n plan : Nat) (samples : List Sample) (s : State) :
    roll (createPhantom n plan samples s) = ((roll s).1 ++ [(n, true, none, none)], (roll s).2) := by
  unfold createPhantom
  simp only [roll_joinDomain, roll_insertReleases, roll_insertEngages, roll_computeClass]
  rw [roll_modifyCar _ n _ (identity_wholeRequirements _)]
  simp [roll, Car.identity, newPhantom]

theorem roll_rehearseRequest (l : Fin 4) (profile plan : Nat) (traced : Option Nat) (s : State) :
    roll (rehearseRequest l profile plan traced s).1 = roll s ∨
      ∃ n, roll (rehearseRequest l profile plan traced s).1 = ((roll s).1 ++ [(n, true, none, none)], (roll s).2) := by
  unfold rehearseRequest beginRehearsal
  split
  · exact .inl rfl
  · exact .inl rfl
  · refine .inr ⟨nextCarNumber s, ?_⟩
    exact (roll_evaluateRun _).trans ((roll_recomputeClass _).trans (roll_createPhantom _ _ _ _))

/-- Every other request leaves the roll alone, or takes cars or a ticket from it. -/
theorem runRequest_shrinks (i : Instr) (s : State) (hquote : ∀ l plan extras slot lane, i ≠ .quote l plan extras slot lane)
    (hrehearse : ∀ l profile plan traced, i ≠ .rehearse l profile plan traced) : RollShrinks s (runRequest i s).1 := by
  cases i with
  | quote l plan extras slot lane => exact absurd rfl (hquote l plan extras slot lane)
  | rehearse l profile plan traced => exact absurd rfl (hrehearse l profile plan traced)
  | confirm => exact .of_roll (roll_confirmRequest ..)
  | cancel => exact cancelRequest_shrinks ..
  | voidTicket => exact voidRequest_shrinks ..
  | requeue => exact .of_roll (roll_requeueRequest ..)
  | halt => exact haltRequest_shrinks ..
  | pullCar => exact pullCarRequest_shrinks ..
  | openTunnel => exact .of_roll (roll_openTunnelRequest ..)
  | closeTunnel => exact .of_roll (roll_closeTunnelRequest ..)
  | restart => exact .of_roll (roll_restartRequest ..)
  | clearTunnel => exact clearTunnelRequest_shrinks ..
  | setArchService => exact .of_roll (roll_setArchServiceRequest ..)
  | clearJam => exact .of_roll (roll_clearJamRequest ..)
  | editPlan => exact .of_roll (roll_editPlanRequest ..)
  | editExtra => exact .of_roll (roll_editExtraRequest ..)
  | editDiscount => exact .of_roll (roll_editDiscountRequest ..)
  | editService => exact .of_roll (roll_editServiceRequest ..)
  | lockRange => exact .of_roll (roll_lockRangeRequest ..)
  | setArch => exact .of_roll (roll_setArchRequest ..)
  | setGauge => exact .of_roll (roll_setGaugeRequest ..)
  | setSite => exact .of_roll (roll_setSiteRequest ..)
  | setTestProfile => exact .of_roll (roll_setTestProfileRequest ..)
  | setAccess => exact .of_roll (roll_setAccessRequest ..)
  | saveStore => exact .of_roll (roll_saveStoreRequest ..)
  | closeout => exact .of_roll (roll_closeoutRequest ..)
  | readJournal => exact .of_roll (roll_readJournalRequest ..)
  | releaseBank => exact .of_roll (roll_releaseBankRequest ..)
  | _ => exact .of_roll rfl

end Sys2Proof.Machine
end

section
/-! The numbers of tickets (R108, R109): the next one is free, and a ticket hands its number to the car admitted on it. -/

namespace Sys2Proof.Machine

variable {s t : State}

/-! ## The next free number (R76, R108) -/

/-- Where the search stands after some steps: past the top it goes on from 1. -/
theorem iterate_stepOn (top n i : Nat) (hi : i < top) :
    (stepOn top)^[i] n = if i = 0 then n else if min n top + i ≤ top then min n top + i else min n top + i - top := by
  induction i with
  | zero => rfl
  | succ i ih =>
    specialize ih (by omega)
    rw [Function.iterate_succ_apply', stepOn, if_neg i.succ_ne_zero]
    generalize (stepOn top)^[i] n = x at ih ⊢
    split_ifs at ih ⊢ <;> omega

theorem iterate_stepOn_inj {top n i j : Nat} (hi : i < top) (hj : j < top) (h : (stepOn top)^[i] n = (stepOn top)^[j] n) :
    i = j := by
  rw [iterate_stepOn top n i hi, iterate_stepOn top n j hj] at h
  split_ifs at h <;> omega

/-- A search that ends on a number in use has found every number on its way in use. -/
theorem mem_of_nextFree_mem {top : Nat} {used : List Nat} {fuel n : Nat} (h : nextFree top used fuel n ∈ used) :
    ∀ i ≤ fuel, (stepOn top)^[i] n ∈ used := by
  induction fuel generalizing n with
  | zero =>
    intro i hi
    obtain rfl := Nat.le_zero.mp hi
    exact h
  | succ fuel ih =>
    unfold nextFree at h
    split at h
    next hn =>
      intro i hi
      cases i with
      | zero => exact hn
      | succ i => exact ih h i (Nat.le_of_succ_le_succ hi)
    next hn => exact absurd h hn

/-- With fewer numbers in use than there are, the search finds a free one. -/
theorem nextFree_not_mem {top : Nat} {used : List Nat} (n : Nat) (h : used.length < top) :
    nextFree top used (used.length + 1) n ∉ used := by
  intro hmem
  have hvisited := mem_of_nextFree_mem hmem
  have hcount : used.length + 1 ≤ used.toFinset.card := by
    rw [← Finset.card_range (used.length + 1)]
    refine Finset.card_le_card_of_injOn (fun i => (stepOn top)^[i] n) (fun i hi => ?_) fun i hi j hj he => ?_
    · exact List.mem_toFinset.mpr (hvisited i (Finset.mem_range.mp hi).le)
    · exact iterate_stepOn_inj ((Finset.mem_range.mp hi).trans_le h) ((Finset.mem_range.mp hj).trans_le h) he
  exact absurd (hcount.trans (List.toFinset_card_le used)) (Nat.not_succ_le_self _)

/-! ## The law of the numbers -/

/-- The tickets that cars on the roll carry. -/
def carriedTickets (cars : List (Nat × Bool × Option Nat × Option BankId)) : List Nat := cars.filterMap fun i => i.2.2.1

/-- The queue's limit and the unshared numbers (R108, R109), with the bound on carried tickets that makes the law last. -/
def NumbersFit (s : State) : Prop :=
  (roll s).2.length ≤ maxTickets ∧ ((roll s).2 ++ carriedTickets (roll s).1).Nodup ∧ (carriedTickets (roll s).1).length ≤ maxCars

theorem carriedTickets_roll (s : State) : carriedTickets (roll s).1 = s.entry.table.filterMap (·.ticket) := by
  simp [carriedTickets, roll, List.filterMap_map, Function.comp_def, Car.identity]

theorem usedTicketNumbers_eq (s : State) : usedTicketNumbers s = (roll s).2 ++ carriedTickets (roll s).1 := by
  rw [carriedTickets_roll]
  rfl

theorem length_roll_tickets (s : State) : (roll s).2.length = s.sales.tickets.length := List.length_map _

theorem carriedTickets_length_le (s : State) : (carriedTickets (roll s).1).length ≤ s.entry.table.length := by
  rw [carriedTickets_roll]
  exact List.length_filterMap_le _ _

theorem NumbersFit.of_fits (hcars : TableFits s) (htickets : TicketsFit s) : NumbersFit s := by
  obtain ⟨htable, -⟩ := hcars
  obtain ⟨hqueue, hnodup⟩ := htickets
  exact ⟨length_roll_tickets s ▸ hqueue, usedTicketNumbers_eq s ▸ hnodup, (carriedTickets_length_le s).trans htable⟩

theorem NumbersFit.ticketsFit (h : NumbersFit s) : TicketsFit s := by
  obtain ⟨hqueue, hnodup, -⟩ := h
  exact ⟨length_roll_tickets s ▸ hqueue, usedTicketNumbers_eq s ▸ hnodup⟩

theorem NumbersFit.shrink (h : NumbersFit s) (hr : RollShrinks s t) : NumbersFit t := by
  obtain ⟨hqueue, hnodup, hcarried⟩ := h
  have hsub : (carriedTickets (roll t).1).Sublist (carriedTickets (roll s).1) := hr.cars.filterMap _
  exact ⟨hr.tickets.length_le.trans hqueue, hnodup.sublist (hr.tickets.append hsub), hsub.length_le.trans hcarried⟩

theorem NumbersFit.of_roll (h : NumbersFit s) (hr : roll t = roll s) : NumbersFit t := h.shrink (.of_roll hr)

/-- The next ticket number is one that neither a ticket nor a car holds (R108). -/
theorem NumbersFit.nextTicketNumber_free (h : NumbersFit s) : nextTicketNumber s ∉ usedTicketNumbers s := by
  obtain ⟨hqueue, -, hcarried⟩ := h
  refine nextFree_not_mem _ ?_
  rw [usedTicketNumbers_eq, List.length_append]
  simp only [maxTickets, maxCars] at hqueue hcarried
  omega

/-- A new ticket with a free number joins a queue that has room (R112). -/
theorem NumbersFit.join (h : NumbersFit s) (hroom : s.sales.tickets.length < maxTickets)
    (ht : roll t = ((roll s).1, (roll s).2 ++ [nextTicketNumber s])) : NumbersFit t := by
  have hfree := h.nextTicketNumber_free
  obtain ⟨-, hnodup, hcarried⟩ := h
  rw [usedTicketNumbers_eq] at hfree
  refine ⟨?_, ?_, ?_⟩ <;> rw [ht]
  · rw [List.length_append, length_roll_tickets]
    exact hroom
  · have hmoved : (((roll s).2 ++ [nextTicketNumber s]) ++ carriedTickets (roll s).1).Perm
        (nextTicketNumber s :: ((roll s).2 ++ carriedTickets (roll s).1)) := by
      rw [List.append_assoc]
      exact List.perm_middle
    exact hmoved.nodup_iff.mpr (List.nodup_cons.mpr ⟨hfree, hnodup⟩)
  · exact hcarried

/-- A car without a ticket joins the table. -/
theorem NumbersFit.join_unticketed {n : Nat} {phantom : Bool} {bank : Option BankId} (h : NumbersFit s)
    (ht : roll t = ((roll s).1 ++ [(n, phantom, none, bank)], (roll s).2)) : NumbersFit t := by
  have hsame : carriedTickets (roll t).1 = carriedTickets (roll s).1 := by simp [ht, carriedTickets]
  unfold NumbersFit
  rw [hsame, ht]
  exact h

/-- A ticket of the queue leaves it for a car that joins a table with room (R77, R88). -/
theorem NumbersFit.hand_over {n k : Nat} {phantom : Bool} {bank : Option BankId} (h : NumbersFit s) (hk : k ∈ (roll s).2)
    (hroom : s.entry.table.length < maxCars)
    (ht : roll t = ((roll s).1 ++ [(n, phantom, some k, bank)], (roll s).2.filter (· != k))) : NumbersFit t := by
  obtain ⟨hqueue, hnodup, -⟩ := h
  have hcarried : carriedTickets (roll t).1 = carriedTickets (roll s).1 ++ [k] := by simp [ht, carriedTickets]
  have hleft : (roll t).2 = (roll s).2.filter (· != k) := by rw [ht]
  unfold NumbersFit
  rw [hcarried, hleft]
  refine ⟨(List.length_filter_le _ _).trans hqueue, ?_, ?_⟩
  · have hrest : ((roll s).2.filter (· != k) ++ carriedTickets (roll s).1).Nodup :=
      hnodup.sublist (List.filter_sublist.append (.refl _))
    have hout : k ∉ (roll s).2.filter (· != k) ++ carriedTickets (roll s).1 := by
      have hdisjoint := List.disjoint_of_nodup_append hnodup
      simpa using fun hc => hdisjoint hk hc
    rw [← List.append_assoc]
    exact (List.nodup_append_comm.mp (List.nodup_cons.mpr ⟨hout, hrest⟩ : ([k] ++ _).Nodup))
  · rw [List.length_append]
    exact lt_of_le_of_lt (carriedTickets_length_le s) hroom

/-! ## Requests and causes -/

theorem runRequest_numbersFit (i : Instr) (s : State) (h : NumbersFit s) : NumbersFit (runRequest i s).1 := by
  by_cases hquote : ∃ l plan extras slot lane, i = .quote l plan extras slot lane
  · obtain ⟨l, plan, extras, slot, lane, rfl⟩ := hquote
    obtain hsame | ⟨hroom, hjoined⟩ := roll_quoteRequest l plan extras slot lane s
    · exact h.of_roll hsame
    · exact h.join hroom hjoined
  by_cases hrehearse : ∃ l profile plan traced, i = .rehearse l profile plan traced
  · obtain ⟨l, profile, plan, traced, rfl⟩ := hrehearse
    obtain hsame | ⟨n, hjoined⟩ := roll_rehearseRequest l profile plan traced s
    · exact h.of_roll hsame
    · exact h.join_unticketed hjoined
  exact h.shrink (runRequest_shrinks i s (fun l plan extras slot lane hi => hquote ⟨l, plan, extras, slot, lane, hi⟩)
    fun l profile plan traced hi => hrehearse ⟨l, profile, plan, traced, hi⟩)

theorem numbersFit_lasting : Lasting NumbersFit where
  frames _ _ _ _ _ h := h
  request := runRequest_numbersFit
  cause c _ h := h.shrink (takeCause_shrinks c _)

/-! ## Admissions (R87 to R91) -/

/-- A record that is built joins at the end of the table (R88). -/
theorem roll_buildRecord (n : Nat) (sale : Sale) (s : State) :
    roll (buildRecord n sale s) = ((roll s).1 ++ [(n, false, sale.ticket, some (activeBank s))], (roll s).2) := by
  have hsettled : roll (settleWatched { s with entry.carCounter := stepOn 65535 n }) = roll s := roll_settleWatched _
  rw [← hsettled]
  unfold buildRecord
  rw [roll_countAdmitted, roll_watching]
  simp [roll, Car.identity, newCar]

theorem handCloseFollow_shrinks (n : Nat) (close : Bool) (s : State) : RollShrinks s (handCloseFollow n close s) := by
  unfold handCloseFollow
  split
  · exact (takeCause_shrinks _ _).after_roll (roll_tagCar s n _)
  · exact .refl s

theorem number_mem_roll {n : Nat} {k : Ticket} (hk : findTicket n s = some k) : k.number ∈ (roll s).2 :=
  List.mem_map_of_mem (List.mem_of_find?_eq_some hk)

theorem admitTicket_numbersFit {n : Nat} {k : Ticket} (hk : findTicket n s = some k) (hroom : s.entry.table.length < maxCars)
    (h : NumbersFit s) : NumbersFit (admitTicket k s) := by
  have hbuilt : NumbersFit (dropTicket k.number (buildRecord (nextCarNumber s) (saleOfTicket k) s)) := by
    refine h.hand_over (n := nextCarNumber s) (phantom := false) (bank := some (activeBank s)) (number_mem_roll hk) hroom ?_
    rw [roll_dropTicket, roll_buildRecord]
    rfl
  have hended (u : State) : roll (match u.entry.call with
      | none => u
      | some c => endCall c u) = roll u := by
    split <;> rfl
  unfold admitTicket
  dsimp only
  refine NumbersFit.of_roll ?_ ((roll_arbitrate _).trans (roll_evaluateRun _))
  refine NumbersFit.shrink ?_ (handCloseFollow_shrinks _ _ _)
  exact hbuilt.of_roll ((roll_ticketNotice _ _ _ _ _).trans ((roll_pulseRoller _).trans ((roll_forget _).trans (hended _))))

theorem admitUnbidden_numbersFit (h : NumbersFit s) : NumbersFit (admitUnbidden s) := by
  have hbuilt : NumbersFit (buildRecord (nextCarNumber s) (saleUnbidden s) s) := by
    have hticket : (saleUnbidden s).ticket = none := by
      unfold saleUnbidden
      split <;> rfl
    exact h.join_unticketed ((roll_buildRecord _ _ s).trans (by rw [hticket]))
  unfold admitUnbidden
  dsimp only
  refine NumbersFit.of_roll ?_ ((roll_arbitrate _).trans (roll_evaluateRun _))
  refine NumbersFit.shrink ?_ (handCloseFollow_shrinks _ _ _)
  exact hbuilt.of_roll ((roll_notify _ _ _).trans ((roll_tagCar _ _ _).trans ((roll_pulseRoller _).trans (roll_forget _))))

theorem admitOpen_numbersFit (hroom : s.entry.table.length < maxCars) (h : NumbersFit s) : NumbersFit (admitOpen s) := by
  unfold admitOpen
  split
  · split
    next hk => exact admitTicket_numbersFit hk hroom h
    · exact admitUnbidden_numbersFit h
  · split
    next hk =>
      obtain ⟨r, -, hfound⟩ := Option.bind_eq_some_iff.mp hk
      split
      · exact admitTicket_numbersFit hfound hroom h
      · exact admitUnbidden_numbersFit h
    · exact admitUnbidden_numbersFit h

theorem entryFront_numbersFit (h : NumbersFit s) : NumbersFit (entryFront s) := by
  have caused (c : Cause) : NumbersFit (takeCause c s) := h.shrink (takeCause_shrinks c s)
  unfold entryFront
  split
  · exact h.of_roll (roll_modifyHalt s _)
  · exact h.of_roll (roll_modifyHalt s _)
  · exact caused _
  · exact h.of_roll (roll_notify s _ _)
  · split
    next hroom => exact admitOpen_numbersFit hroom h
    · exact caused _
  · split
    · exact admitUnbidden_numbersFit h
    · exact caused _

theorem entryClosing_numbersFit (h : NumbersFit s) : NumbersFit (entryClosing s) := by
  have hclosed : NumbersFit { s with entry.entryClosed := true } := h
  unfold entryClosing
  dsimp only
  split
  · exact hclosed
  · exact (entryFront_numbersFit hclosed).of_roll rfl

/-! ## Every command -/

theorem numbersFit_of_empty (h : roll s = ([], [])) : NumbersFit s := by
  unfold NumbersFit
  rw [h]
  decide

theorem exec_numbersFit (i : Instr) (h : NumbersFit s) : LeadsTo NumbersFit (exec i s) := by
  have H := numbersFit_lasting
  cases hl : requestLink i with
  | some l => exact H.ofRequest i l hl h
  | none =>
    cases i with
    | receiveByte l b => exact H.event _ h (H.received l b h)
    | interByteTimeout l => exact H.event _ h (H.of_link l _ h)
    | transmitByteSent l => exact H.event _ h (H.of_link l _ h)
    | responsePlaced l => exact H.event _ h (H.waitingPlaced l h)
    | pendingFrameTaken l => exact H.event _ h (H.pendingTaken l h)
    | encoderLineChange phase g order => exact H.event _ h (h.shrink (encoderChange_shrinks phase g order s))
    | conveyorStall => exact H.event _ h (h.shrink (stallExpires_shrinks s))
    | loadCodeReceived a code => exact H.event _ h (h.of_roll (roll_modifyArch s a _))
    | homeSwitchChange a closed => exact H.event _ h (h.of_roll (roll_modifyArch s a _))
    | returnTimeout a => exact H.event _ h (h.shrink (returnExpires_shrinks a s))
    | entryTreadleClosing => exact H.event _ h (entryClosing_numbersFit h)
    | treadleOpening t => exact H.event _ h (h.of_roll (roll_treadleOpens t s))
    | exitTreadleClosing => exact H.event _ h (h.shrink (exitClosing_shrinks s))
    | presenceLoopChange lane asserted => exact H.event _ h (h.of_roll (roll_arbitrate _))
    | callLapse => exact H.event _ h (h.of_roll (roll_callLapses s))
    | graceExpiry => exact H.event _ h (h.of_roll (roll_graceExpires s))
    | holdExpiry n => exact H.event _ h (h.shrink (holdExpires_shrinks n s))
    | estopLineChange asserted => exact H.event _ h (h.shrink (estopChange_shrinks asserted s))
    | restartWindowExpiry => exact H.event _ h (h.of_roll (roll_windowExpires s))
    | saveStageBegin => exact H.event _ h (h.of_roll rfl)
    | saveReport passed => exact H.event _ h (h.of_roll (roll_saveReported passed s))
    | saveTimeout verified => exact H.event _ h (h.of_roll (roll_saveExpires verified s))
    | rollerPulseEnd => exact H.event _ h (h.of_roll (roll_pulseEnds s))
    | powerOnReset lines verified => exact H.supplyEvent _ (numbersFit_of_empty (roll_start lines _))
    | lineReset lines verified => exact H.event _ h (numbersFit_of_empty (roll_start lines _))
    | lossOfSupply verified => exact H.event _ h (numbersFit_of_empty rfl)
    | _ => cases hl

/-- Settles O12: a QUOTE takes a free number, an admission hands a ticket's number to its car, and nothing else adds one. -/
theorem ticketNumbersAreNeverShared : Obligations.TicketNumbersAreNeverShared := by
  intro s t hcars htickets hstep
  have h : NumbersFit s := .of_fits hcars htickets
  refine NumbersFit.ticketsFit ?_
  unfold step at hstep
  split at hstep
  · obtain rfl := Host.Outcome.next.inj hstep
    unfold idle
    split
    · exact h.of_roll (roll_passUnit s)
    · exact h
  next i rest _ => exact exec_numbersFit i (numbersFit_lasting.of_pending rest h) t hstep

end Sys2Proof.Machine
end

section
/-! The availability of plans and extras (R104, R105): what covers a service, and what a re-evaluation notices. -/

namespace Sys2Proof.Machine

variable {s : State}

/-! ## Coverage (R104) -/

theorem provides_iff (a : Fin 12) : provides a s = true ↔
    (layoutAt a s).kind ≠ .unused ∧ (archAt a s).outOfService = false ∧ (archAt a s).phase ≠ .jammed := by
  simp [provides, and_assoc]

theorem covered_iff (service : Nat) : covered service s = true ↔ ∃ a : Fin 12, (layoutAt a s).kind ≠ .unused ∧
    (layoutAt a s).service = service ∧ (archAt a s).outOfService = false ∧ (archAt a s).phase ≠ .jammed := by
  simp [covered, provides_iff, mem_allArches, and_left_comm]

theorem planAvailableNow_iff (p : Plan) :
    planAvailableNow p s = true ↔ p.enabled = true ∧ ∀ x ∈ p.services, covered x.service s = true := by
  simp [planAvailableNow]

theorem extraAvailableNow_iff (e : Extra) :
    extraAvailableNow e s = true ↔ e.enabled = true ∧ ∀ x ∈ e.services, covered x.service s = true := by
  simp [extraAvailableNow]

/-! ## The re-evaluation (R105) -/

/-- Notices of one type, sent one after another, join the outbox in that order. -/
theorem foldl_notify {α : Type} (type : NoticeType) (body : α → List Byte) (l : List α) (s : State) :
    l.foldl (fun u i => notify type (body i) u) s
      = { s with outbox := s.outbox ++ l.map fun i => { type := type, target := none, body := body i } } := by
  induction l generalizing s with
  | nil => simp
  | cons i rest ih =>
    rw [List.foldl_cons, ih]
    simp [notify]

/-- The plans whose availability a re-evaluation changes. -/
def plansChanged (s : State) : List (Fin 24) :=
  (List.finRange 24).filter fun i => (setAvailability s).sales.planAvailable.get i != s.sales.planAvailable.get i

/-- The extras whose availability a re-evaluation changes. -/
def extrasChanged (s : State) : List (Fin 8) :=
  (List.finRange 8).filter fun i => (setAvailability s).sales.extraAvailable.get i != s.sales.extraAvailable.get i

/-- A re-evaluation judges every plan and extra anew and notices the changes, plans before extras. -/
theorem reevaluate_eq (r : AvailabilityReason) (s : State) : reevaluate r s = { setAvailability s with
    outbox := s.outbox
      ++ (plansChanged s).map (fun i => ⟨.availability, none, planNotice r (setAvailability s) i⟩)
      ++ (extrasChanged s).map fun i => ⟨.availability, none, extraNotice r (setAvailability s) i⟩ } := by
  unfold reevaluate
  dsimp only
  rw [foldl_notify, foldl_notify]
  rfl

theorem planAvailable_setAvailability (i : Fin 24) :
    (setAvailability s).sales.planAvailable.get i = planAvailableNow (s.settings.plans.get i) s := get_tabulate _ i

theorem extraAvailable_setAvailability (i : Fin 8) :
    (setAvailability s).sales.extraAvailable.get i = extraAvailableNow (s.settings.extras.get i) s := get_tabulate _ i

/-- Settles O36: coverage spelled out, and the notices of the plans and the extras that changed. -/
theorem availabilityFollowsTheArches : Obligations.AvailabilityFollowsTheArches := by
  intro r s
  have ht := reevaluate_eq r s
  have hplans : (reevaluate r s).sales.planAvailable = (setAvailability s).sales.planAvailable := by rw [ht]
  have hextras : (reevaluate r s).sales.extraAvailable = (setAvailability s).sales.extraAvailable := by rw [ht]
  dsimp only
  rw [hplans, hextras]
  refine ⟨fun i => ?_, fun i => ?_, ?_, ?_⟩
  · simp only [planAvailable_setAvailability, planAvailableNow_iff, covered_iff]
  · simp only [extraAvailable_setAvailability, extraAvailableNow_iff, covered_iff]
  · rw [ht]
    cases r <;> rfl
  · rw [ht]
    rfl

end Sys2Proof.Machine
end

section
/-! QUOTE (R107, R111, R112): its tests as the rule words them, the first that fails, and the ticket it builds. -/

namespace Sys2Proof.Machine

variable {l : Fin 4} {s : State}

/-! ## Tests in order -/

/-- A test that reads as a condition which holds gives its answer. -/
theorem firstFailed_here {failed : Bool} {st : Status} {rest : List (Bool × Status)} {P : Prop} (hfailed : failed = true ↔ P)
    (h : P) : firstFailed ((failed, st) :: rest) = some st := by
  simp [firstFailed, hfailed.mpr h]

/-- A test that reads as a condition which does not hold leaves the answer to the tests after it. -/
theorem firstFailed_after {failed : Bool} {st : Status} {rest : List (Bool × Status)} {answer : Option Status} {P : Prop}
    (hfailed : failed = true ↔ P) (h : ¬ P) (hrest : firstFailed rest = answer) : firstFailed ((failed, st) :: rest) = answer := by
  simp [firstFailed, Bool.eq_false_iff.mpr (mt hfailed.mp h), hrest]

/-! ## The tests of a QUOTE (R111) -/

theorem laneOf_laneNumber : ∀ n : Fin 3, laneOf (laneNumber n) = some n := by decide

theorem laneOf_eq_none_iff (n : Nat) : laneOf n = none ↔ n < 1 ∨ 3 < n := by
  unfold laneOf
  split <;> simp <;> omega

/-- Test 1: an item outside its range, or a slot that offers no discount. -/
theorem quoteUnknown_iff (plan : Nat) (extras : List Nat) (slot : Option Nat) :
    (decide (24 ≤ plan) || extras.any (fun e => decide (8 ≤ e)) || slotUnknown slot s) = true ↔
      24 ≤ plan ∨ (∃ e ∈ extras, 8 ≤ e) ∨ ∃ k ∈ slot, 8 ≤ k ∨ (discountSlot k s).kind = .none := by
  cases slot <;> simp [slotUnknown, or_assoc]

/-- The lane of the sale is none: the link's lane and the named one are both given or both missing, or the one given is no lane. -/
theorem saleLane_invalid_iff (lane : Option Nat) :
    (((accessAt l s).lane.isSome && lane.isSome) || (saleLane l lane s).isNone) = true ↔
      match (accessAt l s).lane, lane with
      | some n, none => laneOf n = none
      | some _, some _ => True
      | none, none => True
      | none, some n => n < 1 ∨ 3 < n := by
  unfold saleLane
  cases (accessAt l s).lane <;> cases lane <;> simp [laneOf_eq_none_iff]

/-- Test 4: the combination. -/
theorem quoteInvalid_iff (plan : Nat) (extras : List Nat) (slot lane : Option Nat) :
    quoteInvalid l plan extras slot lane s = true ↔
      (((accessAt l s).lane.isSome && lane.isSome) || (saleLane l lane s).isNone) = true ∨ 4 < extras.length ∨
        ¬ extras.Nodup ∨ (∃ e ∈ extras, inSet (planRecord plan s).allowed e = false) ∨
        ∃ k ∈ slot, inSet (discountSlot k s).regions (planRecord plan s).region = false := by
  cases slot <;> simp [quoteInvalid, or_assoc]

/-- Test 5: the plan or an extra is WITHDRAWN. -/
theorem quoteWithdrawn_iff (plan : Nat) (extras : List Nat) : quoteWithdrawn plan extras s = true ↔
    lookup s.sales.planAvailable plan false = false ∨ ∃ e ∈ extras, lookup s.sales.extraAvailable e false = false := by
  simp [quoteWithdrawn]

/-- Test 7: the lane's count equals its limit. -/
theorem saleLaneFull_iff (lane : Option Nat) :
    (match saleLane l lane s with
      | none => false
      | some n => laneFull n s) = true ↔ ∃ n ∈ saleLane l lane s, s.settings.site.stackLimits.get n ≤ laneCount n s := by
  cases saleLane l lane s <;> simp [laneFull]

theorem quote_refused {plan : Nat} {extras : List Nat} {slot lane : Option Nat} {st : Status} (h : Ready l s)
    (ht : quoteTests l plan extras slot lane s = some st) : Refused l 0x10 s (exec (.quote l plan extras slot lane) s) st :=
  request_refused (i := .quote l plan extras slot lane) h (run := quoteRequest l plan extras slot lane)
    (by rw [quoteRequest, ht])

/-- Settles O16: each test is read as its line of R111, and those before it have passed. -/
theorem quoteRefusedByFirstFailedTest : Obligations.QuoteRefusedByFirstFailedTest := by
  intro l plan extras slot lane s h unknown denied state noLane invalid withdrawn queueFull laneIsFull answer
  have refused (st : Status) (ht : quoteTests l plan extras slot lane s = some st) : answer st := quote_refused h ht
  have hunknown := quoteUnknown_iff (s := s) plan extras slot
  have hdenied : (!maySell l (planRecord plan s).region s) = true ↔ denied := by simp [denied]
  have hstate : (s.supervisor.tunnel == .closed || s.supervisor.tunnel == .closing || s.supervisor.tunnel == .rehearsal) = true
      ↔ state := by simp [state, or_assoc]
  have hinvalid : quoteInvalid l plan extras slot lane s = true ↔ invalid :=
    (quoteInvalid_iff plan extras slot lane).trans (or_congr_left (saleLane_invalid_iff lane))
  have hwithdrawn := quoteWithdrawn_iff (s := s) plan extras
  have hqueue : decide (maxTickets ≤ s.sales.tickets.length) = true ↔ queueFull := decide_eq_true_iff
  have hlane := saleLaneFull_iff (l := l) (s := s) lane
  unfold quoteTests at refused
  refine ⟨fun hu => ?_, fun hu hd => ?_, fun hu hd hs => ?_, fun hu hd hs hi => ?_, fun hu hd hs hi hw => ?_,
    fun hu hd hs hi hw hq => ?_, fun hu hd hs hi hw hq hf => ?_⟩
  all_goals apply refused
  · exact firstFailed_here hunknown hu
  · exact firstFailed_after hunknown hu <| firstFailed_here hdenied hd
  · exact firstFailed_after hunknown hu <| firstFailed_after hdenied hd <| firstFailed_here hstate hs
  · exact firstFailed_after hunknown hu <| firstFailed_after hdenied hd <| firstFailed_after hstate hs <|
      firstFailed_here hinvalid hi
  · exact firstFailed_after hunknown hu <| firstFailed_after hdenied hd <| firstFailed_after hstate hs <|
      firstFailed_after hinvalid hi <| firstFailed_here hwithdrawn hw
  · exact firstFailed_after hunknown hu <| firstFailed_after hdenied hd <| firstFailed_after hstate hs <|
      firstFailed_after hinvalid hi <| firstFailed_after hwithdrawn hw <| firstFailed_here hqueue hq
  · exact firstFailed_after hunknown hu <| firstFailed_after hdenied hd <| firstFailed_after hstate hs <|
      firstFailed_after hinvalid hi <| firstFailed_after hwithdrawn hw <| firstFailed_after hqueue hq <|
      firstFailed_here hlane hf

/-! ## The ticket that a QUOTE builds (R107, R112) -/

theorem saleLane_eq {lane : Option Nat} {n : Fin 3}
    (h : (accessAt l s).lane = some (laneNumber n) ∧ lane = none ∨ (accessAt l s).lane = none ∧ lane = some (laneNumber n)) :
    saleLane l lane s = some n := by
  rcases h with ⟨hlink, -⟩ | ⟨hlink, rfl⟩ <;> simp [saleLane, hlink, laneOf_laneNumber]

theorem saleLane_valid {lane : Option Nat} {n : Fin 3}
    (h : (accessAt l s).lane = some (laneNumber n) ∧ lane = none ∨ (accessAt l s).lane = none ∧ lane = some (laneNumber n)) :
    ¬ (((accessAt l s).lane.isSome && lane.isSome) || (saleLane l lane s).isNone) = true := by
  rw [saleLane_eq h]
  rcases h with ⟨hlink, rfl⟩ | ⟨hlink, rfl⟩ <;> simp [hlink]

theorem quoteRequest_of_passed {plan : Nat} {extras : List Nat} {slot lane : Option Nat} {n : Fin 3}
    (ht : quoteTests l plan extras slot lane s = none) (hlane : saleLane l lane s = some n) :
    quoteRequest l plan extras slot lane s = (joinQueue (quotedTicket l plan extras slot n s) s,
      { status := .ok,
        body := put16 (nextTicketNumber s) ++ put8 (laneNumber n) ++ put32 (subtotalOf plan extras s)
          ++ put32 (discountOf slot (subtotalOf plan extras s) s)
          ++ put32 (subtotalOf plan extras s - discountOf slot (subtotalOf plan extras s) s)
          ++ put16 s.settings.site.quoteHold }) := by
  rw [quoteRequest, ht, hlane]
  rfl

theorem foldl_add (a : Nat) (l : List Nat) : l.foldl (· + ·) a = a + l.sum := by
  induction l generalizing a with
  | nil => rfl
  | cons b rest ih => rw [List.foldl_cons, ih, List.sum_cons, Nat.add_assoc]

theorem subtotalOf_eq (plan : Nat) (extras : List Nat) (s : State) :
    subtotalOf plan extras s = (planRecord plan s).price + (extras.map fun e => (extraRecord e s).price).sum := foldl_add _ _

/-- A service that the list holds keeps the larger press; another one is appended (R112). -/
theorem mergeService_eq (list : List ServicePress) (x : ServicePress) : mergeService list x =
    if ∃ y ∈ list, y.service = x.service then
      list.map fun y => if y.service = x.service then { y with press := max y.press x.press } else y
    else list ++ [x] := by
  simp [mergeService]

/-- Settles O15: a QUOTE that fails none of the seven tests adds its ticket and answers with the price. -/
theorem quoteBuildsAHeldTicket : Obligations.QuoteBuildsAHeldTicket := by
  intro l plan extras slot lane n s h hplan hcount hnodup hextras hslot hsell havailable htunnel hlink hroom hlaneRoom
    price subtotal discount number merged
  have hlane := saleLane_eq hlink
  have hsold : ¬ (!maySell l (planRecord plan s).region s) = true := by simp [hsell]
  have hopen :
      ¬ (s.supervisor.tunnel == .closed || s.supervisor.tunnel == .closing || s.supervisor.tunnel == .rehearsal) = true := by
    rcases htunnel with ht | ht | ht <;> simp [ht]
  have htests : quoteTests l plan extras slot lane s = none := by
    refine firstFailed_after (quoteUnknown_iff plan extras slot) ?unknown <| firstFailed_after .rfl hsold <|
      firstFailed_after .rfl hopen <| firstFailed_after (quoteInvalid_iff plan extras slot lane) ?invalid <|
      firstFailed_after (quoteWithdrawn_iff plan extras) ?withdrawn <|
      firstFailed_after decide_eq_true_iff (not_le.mpr hroom) <| firstFailed_after (saleLaneFull_iff lane) ?full rfl
    case unknown =>
      rintro (hu | ⟨e, he, hu⟩ | ⟨k, hk, hu⟩)
      · omega
      · obtain ⟨hrange, -⟩ := hextras e he
        omega
      · obtain ⟨hrange, hkind, -⟩ := hslot k hk
        exact hu.elim (by omega) hkind
    case invalid =>
      rintro (hi | hi | hi | ⟨e, he, hi⟩ | ⟨k, hk, hi⟩)
      · exact saleLane_valid hlink hi
      · omega
      · exact hi hnodup
      · obtain ⟨-, hallowed, -⟩ := hextras e he
        exact Bool.eq_false_iff.mp hi hallowed
      · obtain ⟨-, -, hregion⟩ := hslot k hk
        exact Bool.eq_false_iff.mp hi hregion
    case withdrawn =>
      rintro (hw | ⟨e, he, hw⟩)
      · exact Bool.eq_false_iff.mp hw havailable
      · obtain ⟨-, -, hextra⟩ := hextras e he
        exact Bool.eq_false_iff.mp hw hextra
    case full =>
      rintro ⟨m, hm, hf⟩
      obtain rfl := Option.some.inj (hlane.symm.trans hm)
      omega
  have hsubtotal : subtotalOf plan extras s = subtotal := subtotalOf_eq plan extras s
  have hdiscount : discountOf slot subtotal s = discount := rfl
  have hmerged : merged = mergeService := (funext₂ mergeService_eq).symm
  rw [hmerged, ← hdiscount, ← hsubtotal]
  exact request_taken (i := .quote l plan extras slot lane) h (run := quoteRequest l plan extras slot lane)
    (quoteRequest_of_passed htests hlane) rfl

end Sys2Proof.Machine
end

section
/-! CONFIRM, CANCEL, VOID and REQUEUE (R114 to R118): the tests they fail and what they do to a ticket. -/

namespace Sys2Proof.Machine

variable {l : Fin 4} {n : Nat} {k : Ticket} {s : State}

theorem findTicket_number (hk : findTicket n s = some k) : k.number = n := by
  simpa using List.find?_some hk

theorem permitted_not_iff (p : Permission) : (!permitted l p s) = true ↔ permitted l p s = false := by simp

/-! ## Ownership (R114, R116) -/

theorem ownershipTests_of_gone (hk : findTicket n s = none) :
    ownershipTests l n s = some (if n ∈ s.sales.expired.get l then .expired else .unknown) := by
  rw [ownershipTests, hk]

theorem ownershipTests_eq (hk : findTicket n s = some k) :
    ownershipTests l n s = if k.link ≠ l then some .notOwner else if k.state ≠ .held then some .state else none := by
  rw [ownershipTests, hk]
  simp [firstFailed]

/-- CONFIRM and CANCEL fail the tests they share alike. -/
theorem ownership_refused {st : Status} (code : Nat) (h : Ready l s) (ht : ownershipTests l n s = some st) :
    Refused l 0x11 s (exec (.confirm l n code) s) st ∧ Refused l 0x12 s (exec (.cancel l n) s) st :=
  ⟨request_refused (i := .confirm l n code) h (run := confirmRequest l n code) (by rw [confirmRequest, ht]),
    request_refused (i := .cancel l n) h (run := cancelRequest l n) (by rw [cancelRequest, ht])⟩

/-! ## CONFIRM (R114, R115) -/

theorem confirmRequest_of_invalid {code : Nat} (ht : ownershipTests l n s = none) (hk : findTicket n s = some k)
    (hc : tenderOf code = none) : confirmRequest l n code s = (s, refuse .invalid) := by
  rw [confirmRequest, ht, hk, hc]

theorem confirmRequest_of_valid {code : Nat} {tender : Tender} (ht : ownershipTests l n s = none)
    (hk : findTicket n s = some k) (hc : tenderOf code = some tender) :
    confirmRequest l n code s =
      if sequencesSpent s then (s, refuse .busy)
      else (arbitrate (payTicket k (some tender) k.lapses s),
        { status := .ok, body := put16 n ++ put32 (s.sales.sequenceCounter + 1) }) := by
  rw [confirmRequest, ht, hk, hc]

theorem sequencesSpent_iff : sequencesSpent s = true ↔ 4294967295 ≤ s.sales.sequenceCounter := decide_eq_true_iff

theorem tenderOf_eq {code : Nat} {tender : Tender}
    (h : code = 1 ∧ tender = .cash ∨ code = 2 ∧ tender = .card ∨ code = 3 ∧ tender = .account) : tenderOf code = some tender := by
  obtain ⟨rfl, rfl⟩ | ⟨rfl, rfl⟩ | ⟨rfl, rfl⟩ := h <;> rfl

/-- Settles O17: a CONFIRM that passes pays the ticket, a CANCEL that passes drops it, and the tests refuse in their order. -/
theorem confirmAndCancelByOwnership : Obligations.ConfirmAndCancelByOwnership := by
  have passed {l : Fin 4} {n : Nat} {k : Ticket} {s : State} (hk : findTicket n s = some k) (hl : k.link = l)
      (hs : k.state = .held) : ownershipTests l n s = none := by
    rw [ownershipTests_eq hk, if_neg (not_not.mpr hl), if_neg (not_not.mpr hs)]
  refine ⟨fun l n code tender k s h hk hl hs hcode hroom => ?_, fun l n code s h => ⟨fun hk he => ?_, fun hk he => ?_, fun k hk =>
    ⟨fun hl => ?_, fun hl hs => ?_, fun hl hs hc => ?_, fun hl hs hc hspent => ?_, fun hl hs => ?_⟩⟩⟩
  · obtain rfl := findTicket_number hk
    have hleft : sequencesSpent s = false := Bool.eq_false_iff.mpr (mt sequencesSpent_iff.mp (not_le.mpr hroom))
    refine request_taken (i := .confirm l k.number code) h (run := confirmRequest l k.number code)
      ((confirmRequest_of_valid (passed hk hl hs) hk (tenderOf_eq hcode)).trans ?_) (arbitrate_inert _).raised
    rw [hleft]
    rfl
  · exact ownership_refused code h (by rw [ownershipTests_of_gone hk, if_pos he])
  · exact ownership_refused code h (by rw [ownershipTests_of_gone hk, if_neg he])
  · exact ownership_refused code h (by rw [ownershipTests_eq hk, if_pos hl])
  · exact ownership_refused code h (by rw [ownershipTests_eq hk, if_neg (not_not.mpr hl), if_pos hs])
  · exact request_refused (i := .confirm l n code) h (run := confirmRequest l n code)
      (confirmRequest_of_invalid (passed hk hl hs) hk hc)
  · obtain ⟨tender, ht⟩ := Option.ne_none_iff_exists'.mp hc
    exact request_refused (i := .confirm l n code) h (run := confirmRequest l n code)
      ((confirmRequest_of_valid (passed hk hl hs) hk ht).trans (if_pos (sequencesSpent_iff.mpr hspent)))
  · exact request_taken (i := .cancel l n) h (run := cancelRequest l n) (by rw [cancelRequest, passed hk hl hs]; rfl) rfl

/-! ## VOID (R117) -/

theorem releaseRemembered_inert (n : Nat) (s : State) : Inert s (releaseRemembered n s) := by
  unfold releaseRemembered
  split
  · exact .refl s
  · split
    · exact (forget_inert s).trans (arbitrate_inert _)
    · exact .refl s

theorem forgetTicket_inert (n : Nat) (s : State) : Inert s (forgetTicket n s) := by
  unfold forgetTicket
  split
  · exact .refl s
  · split
    · exact forget_inert s
    · exact .refl s

theorem void_refused {st : Status} (h : Ready l s) (ht : voidTests l n s = some st) :
    Refused l 0x13 s (exec (.voidTicket l n) s) st :=
  request_refused (i := .voidTicket l n) h (run := voidRequest l n) (by rw [voidRequest, ht])

theorem voidTests_of_denied (hp : permitted l .operate s = false) : voidTests l n s = some .denied :=
  firstFailed_here (permitted_not_iff _) hp

theorem voidTests_eq (hp : permitted l .operate s = true) : voidTests l n s =
    match findTicket n s with
    | none => some .unknown
    | some k => if k.state = .called then some .state else none := by
  rw [voidTests]
  cases findTicket n s <;> simp [firstFailed, hp]

theorem voidTicket_of_held (hs : k.state = .held) : voidTicket k s =
    releaseRemembered k.number (ticketNotice .voided k removedCode [] (dropTicket k.number s)) := by
  simp only [voidTicket, if_pos hs]

theorem voidTicket_of_sold (hs : k.state ≠ .held) : voidTicket k s =
    releaseRemembered k.number (ticketNotice .voided k removedCode [] (submitTicket k .voided (dropTicket k.number s))) := by
  simp only [voidTicket, if_neg hs]

theorem voidTicket_inert (k : Ticket) (s : State) : Inert s (voidTicket k s) := by
  have hdropped : Inert s (dropTicket k.number s) := dropTicket_inert s _
  by_cases hs : k.state = .held
  · rw [voidTicket_of_held hs]
    exact (hdropped.trans (ticketNotice_inert _ _ _ _ _)).trans (releaseRemembered_inert _ _)
  · rw [voidTicket_of_sold hs]
    exact ((hdropped.trans (submitTicket_inert _ _ _)).trans (ticketNotice_inert _ _ _ _ _)).trans (releaseRemembered_inert _ _)

theorem void_taken (h : Ready l s) (hp : permitted l .operate s = true) (hk : findTicket n s = some k) (hs : k.state ≠ .called) :
    Answered l 0x13 s (exec (.voidTicket l n) s) .ok [] (voidTicket k s) :=
  request_taken (i := .voidTicket l n) h (run := voidRequest l n)
    (by rw [voidRequest, voidTests_eq hp, hk]; simp [hs]) (voidTicket_inert k s).raised

/-! ## REQUEUE (R118) -/

theorem requeue_refused {st : Status} (h : Ready l s) (ht : requeueTests l n s = some st) :
    Refused l 0x14 s (exec (.requeue l n) s) st :=
  request_refused (i := .requeue l n) h (run := requeueRequest l n) (by rw [requeueRequest, ht])

theorem requeueTests_of_denied (hp : permitted l .operate s = false) : requeueTests l n s = some .denied :=
  firstFailed_here (permitted_not_iff _) hp

theorem requeueTests_of_unknown (hp : permitted l .operate s = true) (hk : findTicket n s = none) :
    requeueTests l n s = some .unknown := by
  simp [requeueTests, firstFailed, hp, hk]

theorem requeueTests_eq (hp : permitted l .operate s = true) (hk : findTicket n s = some k) : requeueTests l n s =
    if k.state ≠ .stalled then some .state
    else if s.settings.site.stackLimits.get k.lane ≤ laneCount k.lane s then some .laneFull
    else if 4294967295 ≤ s.sales.sequenceCounter then some .busy
    else none := by
  simp [requeueTests, firstFailed, hp, hk, laneFull, sequencesSpent_iff]

theorem requeueTicket_inert (k : Ticket) (s : State) : Inert s (requeueTicket k s) := by
  unfold requeueTicket
  refine Inert.trans (Inert.trans ?_ (forgetTicket_inert _ _)) (arbitrate_inert _)
  exact .of ⟨rfl, rfl, rfl, rfl, rfl, rfl, rfl, rfl⟩

theorem requeue_taken (h : Ready l s) (hk : findTicket n s = some k) (ht : requeueTests l n s = none) :
    Answered l 0x14 s (exec (.requeue l n) s) .ok [] (requeueTicket k s) :=
  request_taken (i := .requeue l n) h (run := requeueRequest l n) (by rw [requeueRequest, ht, hk]) (requeueTicket_inert k s).raised

/-- Settles O18: permission, then the ticket and its state, then the effect on the ticket. -/
theorem voidAndRequeueByTicketState : Obligations.VoidAndRequeueByTicketState := by
  refine ⟨fun l n s h => ⟨fun hp => ?_, fun hp => ⟨fun hk => ?_, fun k hk => ?_⟩⟩,
    fun l n s h => ⟨fun hp => ?_, fun hp => ⟨fun hk => ?_, fun k hk => ?_⟩⟩⟩
  · exact void_refused h (voidTests_of_denied hp)
  · exact void_refused h (by rw [voidTests_eq hp, hk])
  · obtain rfl := findTicket_number hk
    refine ⟨fun hs => ?_, fun hs => ?_, fun hs => ?_⟩
    · exact void_refused h (by rw [voidTests_eq hp, hk]; exact if_pos hs)
    · have htaken := void_taken h hp hk (by simp [hs])
      rwa [voidTicket_of_held hs] at htaken
    · have htaken := void_taken h hp hk (by rcases hs with hs | hs <;> simp [hs])
      rwa [voidTicket_of_sold (by rcases hs with hs | hs <;> simp [hs])] at htaken
  · exact requeue_refused h (requeueTests_of_denied hp)
  · exact requeue_refused h (requeueTests_of_unknown hp hk)
  · obtain rfl := findTicket_number hk
    have htests := requeueTests_eq hp hk
    refine ⟨fun hs => ?_, fun hs => ⟨fun hfull => ?_, fun hroom => ⟨fun hspent => ?_, fun hleft => ?_⟩⟩⟩
    · exact requeue_refused h (htests.trans (if_pos hs))
    · rw [if_neg (not_not.mpr hs), if_pos hfull] at htests
      exact requeue_refused h htests
    · rw [if_neg (not_not.mpr hs), if_neg (not_le.mpr hroom), if_pos hspent] at htests
      exact requeue_refused h htests
    · rw [if_neg (not_not.mpr hs), if_neg (not_le.mpr hroom), if_neg (not_le.mpr hleft)] at htests
      exact requeue_taken h hk htests

end Sys2Proof.Machine
end

section
/-! The queries and READ_TRACE (R53, R97, R121, R122, R142, R167, R192): each answers as the part stands and changes nothing. -/

namespace Sys2Proof.Machine

variable {l : Fin 4} {s : State}

/-- A query on a free link is answered with its reply to the part as it stands. -/
theorem query_answered {i : Instr} (reply : State → Reply) (h : Ready l s) :
    Answered l (requestFrame i).kind s (request l i (fun t => query (reply t) t) s) (reply s).status (reply s).body s :=
  have ⟨⟨_, hraised, _⟩, _⟩ := h
  request_answered l i (fun t => query (reply t) t) s s (reply s) h rfl hraised

/-- An answer that is a refusal leaves the part as it was. -/
theorem refused_of_reply {kind : Byte} {o : Host.Outcome State Fault Refusal} {reply : Reply} {st : Status}
    (h : Answered l kind s o reply.status reply.body s) (hr : reply = refuse st) : Refused l kind s o st := by
  subst hr
  exact h

/-! ## What does not exist -/

theorem queryTicketsReply_of_gone {n : Nat} (first : Nat) (hk : findTicket n s = none) :
    queryTicketsReply (some n) first s = refuse .unknown := by
  simp only [queryTicketsReply, hk]

theorem queryTunnelReply_of_gone {n : Nat} (first : Option Nat) (hc : findCar n s = none) :
    queryTunnelReply (some n) first s = refuse .unknown := by
  simp only [queryTunnelReply, hc]

theorem queryHaltReply_of_other {part : Nat} (h1 : part ≠ 1) (h2 : part ≠ 2) : queryHaltReply part s = refuse .unknown := by
  unfold queryHaltReply
  split
  · exact absurd rfl h1
  · exact absurd rfl h2
  · rfl

theorem queryArchReply_of_other {arch : Nat} (first : Option Nat) (h : 12 ≤ arch) :
    queryArchReply arch first s = refuse .unknown := by
  simp only [queryArchReply, archOf_eq_none h]

theorem queryCatalogReply_of_other {kind n : Nat}
    (h : kind = 0 ∨ 4 < kind ∨ (kind = 1 ∧ 16 ≤ n) ∨ (kind = 2 ∧ 24 ≤ n) ∨ ((kind = 3 ∨ kind = 4) ∧ 8 ≤ n)) :
    queryCatalogReply kind n s = refuse .unknown := by
  unfold queryCatalogReply
  split
  case h_5 => rfl
  all_goals exact if_neg (by omega)

theorem queryStatusReply_of_other {part : Nat} (h : part = 0 ∨ 5 < part) : queryStatusReply l part s = refuse .unknown := by
  unfold queryStatusReply
  split
  case h_6 => rfl
  all_goals omega

/-- Settles O19: every query is answered by its reply, and the replies to what does not exist are UNKNOWN. -/
theorem queriesChangeNothing : Obligations.QueriesChangeNothing := by
  intro l s h
  have tickets (ticket : Option Nat) (first : Nat) :=
    query_answered (i := .queryTickets l ticket first) (queryTicketsReply ticket first) h
  have tunnel (car first : Option Nat) := query_answered (i := .queryTunnel l car first) (queryTunnelReply car first) h
  have halt (part : Nat) := query_answered (i := .queryHalt l part) (queryHaltReply part) h
  have arches (arch : Nat) (first : Option Nat) := query_answered (i := .queryArch l arch first) (queryArchReply arch first) h
  have catalog (kind n : Nat) := query_answered (i := .queryCatalog l kind n) (queryCatalogReply kind n) h
  have status (part : Nat) := query_answered (i := .queryStatus l part) (queryStatusReply l part) h
  have trace (first : Option Nat) := query_answered (i := .readTrace l first) (readTraceReply first) h
  exact ⟨tickets, tunnel, halt, arches, catalog, status, trace,
    fun n first hk => refused_of_reply (tickets (some n) first) (queryTicketsReply_of_gone first hk),
    fun n first hc => refused_of_reply (tunnel (some n) first) (queryTunnelReply_of_gone first hc),
    fun part h1 h2 => refused_of_reply (halt part) (queryHaltReply_of_other h1 h2),
    fun arch first ha => refused_of_reply (arches arch first) (queryArchReply_of_other first ha),
    fun kind n hn => refused_of_reply (catalog kind n) (queryCatalogReply_of_other hn),
    fun part hp => refused_of_reply (status part) (queryStatusReply_of_other hp)⟩

end Sys2Proof.Machine
end

section
/-! The catalog's edits and LOCK_RANGE (R99 to R103, R181): the checks of a record and the rights over it as the rules word them, the
refusals, and what an edit that is taken writes. -/

namespace Sys2Proof.Machine

variable {l : Fin 4} {n : Nat} {s : State}

/-! ## Checks of a record (R99, R100, R102) -/

theorem printable_iff (b : Byte) : printable b = true ↔ 0x20 ≤ b.toNat ∧ b.toNat ≤ 0x7E := by simp [printable]

theorem printable_ne_zero {b : Byte} (h : printable b = true) : b ≠ 0 := by
  rintro rfl
  exact absurd h (by decide)

/-- A printable name followed by padding is cut at its first 0x00. -/
theorem name_split {name : List Byte} (pad : Nat) (h : ∀ b ∈ name, printable b = true) :
    nameOf (name ++ List.replicate pad 0) = name ∧
      (name ++ List.replicate pad 0).dropWhile (· != 0) = List.replicate pad 0 := by
  have hname : ∀ b ∈ name, (b != 0) = true := fun b hb => bne_iff_ne.mpr (printable_ne_zero (h b hb))
  unfold nameOf
  rw [List.takeWhile_append_of_pos hname, List.dropWhile_append_of_pos hname]
  cases pad <;> simp [List.replicate_succ]

theorem nameOk_iff (width : Nat) (field : List Byte) : nameOk width field = true ↔
    field.length ≤ width ∧ ∃ name pad, field = name ++ List.replicate pad 0 ∧ ∀ b ∈ name, 0x20 ≤ b.toNat ∧ b.toNat ≤ 0x7E := by
  simp only [← printable_iff]
  constructor
  · intro h
    simp only [nameOk, Bool.and_eq_true, decide_eq_true_iff, List.all_eq_true, beq_iff_eq] at h
    obtain ⟨⟨hwidth, hname⟩, hpad⟩ := h
    refine ⟨hwidth, nameOf field, (field.dropWhile (· != 0)).length, ?_, hname⟩
    rw [← List.eq_replicate_of_mem hpad]
    exact List.takeWhile_append_dropWhile.symm
  · rintro ⟨hwidth, name, pad, rfl, hname⟩
    obtain ⟨hcut, hrest⟩ := name_split pad hname
    simp only [nameOk, hcut, hrest, Bool.and_eq_true, decide_eq_true_iff, List.all_eq_true, beq_iff_eq]
    exact ⟨⟨hwidth, hname⟩, fun b hb => List.eq_of_mem_replicate hb⟩

theorem servicesOk_iff (most : Nat) (list : List ServicePress) : servicesOk most list = true ↔
    list.length ≤ most ∧ (∀ x ∈ list, x.service ≤ 15 ∧ x.press ≤ 150) ∧ (list.map (·.service)).Nodup := by
  show _ ↔ _ ∧ (∀ x ∈ list, x.service ≤ 15 ∧ x.press ≤ maxPress) ∧ _
  simp [servicesOk, Nat.lt_succ_iff, and_assoc]

theorem planOk_iff (p : Plan) : planOk p = true ↔ nameOk 16 p.name = true ∧ p.region ≤ 3 ∧ p.price ≤ 99999 ∧
    1 ≤ p.maxClass ∧ p.maxClass ≤ 4 ∧ servicesOk 12 p.services = true := by
  show _ ↔ _ ∧ _ ∧ p.price ≤ maxPrice ∧ _
  simp [planOk, Nat.lt_succ_iff, and_assoc]

theorem extraOk_iff (e : Extra) :
    extraOk e = true ↔ nameOk 16 e.name = true ∧ e.price ≤ 99999 ∧ servicesOk 3 e.services = true := by
  show _ ↔ _ ∧ e.price ≤ maxPrice ∧ _
  simp [extraOk, and_assoc]

/-! ## Sets sent as bit masks (R194) -/

theorem subset_iff (a b : Byte) : subset a b = true ↔ ∀ m, inSet a m = true → inSet b m = true := by
  unfold subset inSet
  rw [beq_iff_eq, BitVec.eq_of_getLsbD_eq_iff]
  constructor
  · intro h m ha
    have hm := h m (BitVec.lt_of_getLsbD ha)
    simpa [ha, BitVec.lt_of_getLsbD ha] using hm
  · intro h m hm
    have hzero : (0 : Byte).getLsbD m = false := BitVec.getLsbD_zero
    rw [BitVec.getLsbD_and, BitVec.getLsbD_not, hzero]
    cases ha : a.getLsbD m with
    | false => rfl
    | true => rw [h m ha, Bool.not_true, Bool.and_false, Bool.and_false]

theorem inSet_zero (m : Nat) : inSet 0 m = false := BitVec.getLsbD_zero

theorem inSet_or (a b : Byte) (m : Nat) : inSet (a ||| b) m = true ↔ inSet a m = true ∨ inSet b m = true := by
  simp [inSet, BitVec.getLsbD_or]

theorem inSet_lt {a : Byte} {m : Nat} (h : inSet a m = true) : m < 8 := BitVec.lt_of_getLsbD h

/-- The set of all four regions holds the regions 0 to 3. -/
theorem inSet_allRegions (m : Nat) : inSet 0x0F m = true ↔ m ≤ 3 := by
  by_cases hm : m < 8
  · interval_cases m <;> decide
  · exact ⟨fun h => absurd (inSet_lt h) hm, fun h => by omega⟩

theorem union_eq_zero_iff (a b : Byte) : a ||| b = 0 ↔ a = 0 ∧ b = 0 := BitVec.or_eq_zero_iff

/-! ## A discount record (R103) -/

theorem discountKindOf_cases (kind : Nat) :
    (kind = 1 ∧ discountKindOf kind = some .none) ∨ (kind = 2 ∧ discountKindOf kind = some .amount) ∨
      (kind = 3 ∧ discountKindOf kind = some .percent) ∨ (kind ≠ 1 ∧ kind ≠ 2 ∧ kind ≠ 3 ∧ discountKindOf kind = none) := by
  unfold discountKindOf
  split <;> simp_all

theorem discountOfArg_iff (r : DiscountArg) (d : Discount) : discountOfArg r = some d ↔
    d.value = r.value ∧ d.regions = r.regions ∧
      (r.kind = 1 ∧ d.kind = .none ∧ r.value = 0 ∧ r.regions = 0 ∨
        r.regions ≠ 0 ∧ (∀ m, inSet r.regions m = true → m ≤ 3) ∧
          (r.kind = 2 ∧ d.kind = .amount ∧ 1 ≤ r.value ∧ r.value ≤ 99999 ∨
            r.kind = 3 ∧ d.kind = .percent ∧ 1 ≤ r.value ∧ r.value ≤ 100)) := by
  have hsubset : subset r.regions 0x0F = true ↔ ∀ m, inSet r.regions m = true → m ≤ 3 := by
    simp only [subset_iff, inSet_allRegions]
  obtain ⟨kind, value, regions⟩ := d
  rw [discountOfArg, ← hsubset]
  obtain ⟨hkind, hof⟩ | ⟨hkind, hof⟩ | ⟨hkind, hof⟩ | ⟨h1, h2, h3, hof⟩ := discountKindOf_cases r.kind
  · rw [hof, Option.ite_none_right_eq_some]
    simp only [hkind, Option.some.injEq, Discount.mk.injEq]
    grind
  · rw [hof, Option.ite_none_right_eq_some, maxPrice]
    simp only [hkind, Option.some.injEq, Discount.mk.injEq]
    grind
  · rw [hof, Option.ite_none_right_eq_some]
    simp only [hkind, Option.some.injEq, Discount.mk.injEq]
    grind
  · simp [hof, h1, h2, h3]

/-! ## Rights (R102, R103, R178, R180) -/

theorem mayEdit_iff (region : Nat) : mayEdit l region s = true ↔ s.strap = true ∨ inSet (accessAt l s).edit region = true :=
  Bool.or_eq_true_iff

theorem mayEditSome_iff : mayEditSome l s = true ↔ s.strap = true ∨ (accessAt l s).edit ≠ 0 := by simp [mayEditSome]

theorem mayEditAll_iff (regions : Byte) : mayEditAll l regions s = true ↔
    s.strap = true ∨ ∀ m, inSet regions m = true → inSet (accessAt l s).edit m = true := by
  rw [mayEditAll, Bool.or_eq_true_iff, subset_iff]

theorem mem_plansAllowing (p : Plan) : p ∈ plansAllowing n s ↔ p ∈ s.settings.plans.toList ∧ inSet p.allowed n = true :=
  List.mem_filter

theorem plansAllowing_eq_nil_iff : plansAllowing n s = [] ↔ ∀ p ∈ s.settings.plans.toList, inSet p.allowed n = false := by
  simp only [plansAllowing, List.filter_eq_nil_iff, Bool.not_eq_true]

/-- EDIT for every region of a set of regions, under the strap or by the link's own grant (R178, R180). -/
theorem mayEdit_every_iff (regions : Nat → Prop) : (∀ m, regions m → mayEdit l m s = true) ↔
    s.strap = true ∨ ∀ m, regions m → inSet (accessAt l s).edit m = true := by
  by_cases hstrap : s.strap = true <;> simp [mayEdit_iff, hstrap]

/-- The rights over an extra: EDIT for some region where no plan allows it, and for the region of each plan that does (R102). -/
theorem mayEditExtra_iff : mayEditExtra l n s = true ↔
    ((∀ p ∈ s.settings.plans.toList, inSet p.allowed n = false) → mayEditSome l s = true) ∧
      ∀ p ∈ s.settings.plans.toList, inSet p.allowed n = true → mayEdit l p.region s = true := by
  have hall : ((plansAllowing n s).all fun p => mayEdit l p.region s) = true ↔
      ∀ p ∈ s.settings.plans.toList, inSet p.allowed n = true → mayEdit l p.region s = true := by
    simp only [List.all_eq_true, mem_plansAllowing, and_imp]
  rw [← hall, ← plansAllowing_eq_nil_iff, mayEditExtra]
  split
  next hnone => simp [List.isEmpty_iff.mp hnone]
  next hsome => exact (and_iff_right fun hnone => absurd (List.isEmpty_iff.mpr hnone) hsome).symm

/-- The rights over a slot: EDIT for some region where both sets are empty, and for each region of either (R103). -/
theorem mayEditDiscount_iff (regions : Byte) : mayEditDiscount l n regions s = true ↔
    ((discountSlot n s).regions = 0 → regions = 0 → mayEditSome l s = true) ∧
      ∀ m, inSet (discountSlot n s).regions m = true ∨ inSet regions m = true → mayEdit l m s = true := by
  unfold mayEditDiscount
  dsimp only
  split
  next hnone =>
    obtain ⟨hold, hnew⟩ := (union_eq_zero_iff _ _).mp hnone
    simp only [hold, hnew, inSet_zero, forall_const, Bool.false_eq_true, or_self, false_implies, and_true]
  next hsome =>
    have hboth : (discountSlot n s).regions = 0 → regions = 0 → mayEditSome l s = true := fun hold hnew =>
      absurd ((union_eq_zero_iff _ _).mpr ⟨hold, hnew⟩) hsome
    rw [mayEditAll_iff, ← mayEdit_every_iff]
    simp only [inSet_or]
    exact (and_iff_right hboth).symm

/-! ## The tests of each edit as its rule words them -/

/-- A check or a right that a request lacks is the first test failed. -/
theorem firstFailed_lacking {passed : Bool} {st : Status} {rest : List (Bool × Status)} (h : passed = false) :
    firstFailed ((!passed, st) :: rest) = some st := by
  simp [firstFailed, h]

/-- A check or a right that a request has leaves the answer to the tests after it. -/
theorem firstFailed_having {passed : Bool} {st : Status} {rest : List (Bool × Status)} {answer : Option Status} (h : passed = true)
    (hrest : firstFailed rest = answer) : firstFailed ((!passed, st) :: rest) = answer := by
  simp [firstFailed, h, hrest]

/-- A number of the catalog inside its kind's range leaves the answer to the tests after it. -/
theorem firstFailed_inRange {count : Nat} {st : Status} {rest : List (Bool × Status)} {answer : Option Status} (h : n < count)
    (hrest : firstFailed rest = answer) : firstFailed ((decide (count ≤ n), st) :: rest) = answer :=
  firstFailed_after decide_eq_true_iff (not_le.mpr h) hrest

/-- A plan is edited under the rights over its present and its new region (R100). -/
theorem planRights_iff (p : Plan) : (!(mayEdit l (planRecord n s).region s && mayEdit l p.region s)) = true ↔
    ¬ (mayEdit l (planRecord n s).region s = true ∧ mayEdit l p.region s = true) := by
  rw [← Bool.and_eq_true, Bool.not_eq_true', Bool.not_eq_true]

/-- A plan is locked when a lock range holds its number, both ends included (R181). -/
theorem planLocked_iff : planLocked n s = true ↔ ∃ r ∈ s.locks, r.1 ≤ n ∧ n ≤ r.2 := by
  simp only [planLocked, List.any_eq_true, Bool.and_eq_true, decide_eq_true_iff]

theorem lockOutside_iff (first last : Nat) : (decide (24 ≤ first) || decide (24 ≤ last)) = true ↔ 24 ≤ first ∨ 24 ≤ last := by
  simp only [Bool.or_eq_true, decide_eq_true_iff]

theorem locksFull_iff : decide (maxLocks ≤ s.locks.length) = true ↔ 4 ≤ s.locks.length := decide_eq_true_iff

/-! ## Refusals -/

theorem editService_refused {name : List Byte} {st : Status} (h : Ready l s) (ht : editServiceTests l n name s = some st) :
    Refused l 0x33 s (exec (.editService l n name) s) st :=
  request_refused (i := .editService l n name) h (run := editServiceRequest l n name) (by rw [editServiceRequest, ht])

theorem editPlan_refused {p : Plan} {st : Status} (h : Ready l s) (ht : editPlanTests l n p s = some st) :
    Refused l 0x30 s (exec (.editPlan l n p) s) st :=
  request_refused (i := .editPlan l n p) h (run := editPlanRequest l n p) (by rw [editPlanRequest, ht])

theorem editExtra_refused {e : Extra} {st : Status} (h : Ready l s) (ht : editExtraTests l n e s = some st) :
    Refused l 0x31 s (exec (.editExtra l n e) s) st :=
  request_refused (i := .editExtra l n e) h (run := editExtraRequest l n e) (by rw [editExtraRequest, ht])

theorem editDiscount_refused {r : DiscountArg} {st : Status} (h : Ready l s) (ht : editDiscountTests l n r s = some st) :
    Refused l 0x32 s (exec (.editDiscount l n r) s) st :=
  request_refused (i := .editDiscount l n r) h (run := editDiscountRequest l n r) (by rw [editDiscountRequest, ht])

theorem editDiscount_invalid {r : DiscountArg} (h : Ready l s) (ht : editDiscountTests l n r s = none)
    (hd : discountOfArg r = none) : Refused l 0x32 s (exec (.editDiscount l n r) s) .invalid :=
  request_refused (i := .editDiscount l n r) h (run := editDiscountRequest l n r) (by rw [editDiscountRequest, ht, hd])

theorem lockRange_refused {last : Nat} {st : Status} (h : Ready l s) (ht : lockRangeTests l n last s = some st) :
    Refused l 0x34 s (exec (.lockRange l n last) s) st :=
  request_refused (i := .lockRange l n last) h (run := lockRangeRequest l n last) (by rw [lockRangeRequest, ht])

/-- The rights over an extra in the words of R102, the strap drawn out. -/
theorem mayEditExtra_iff_strap : mayEditExtra l n s = true ↔
    ((∀ p ∈ s.settings.plans.toList, inSet p.allowed n = false) → s.strap = true ∨ (accessAt l s).edit ≠ 0) ∧
      (s.strap = true ∨ ∀ m, (∃ p ∈ s.settings.plans.toList, inSet p.allowed n = true ∧ p.region = m) →
        inSet (accessAt l s).edit m = true) := by
  rw [mayEditExtra_iff, mayEditSome_iff, ← mayEdit_every_iff]
  refine and_congr_right fun _ => ⟨?_, fun h p hp ha => h p.region ⟨p, hp, ha, rfl⟩⟩
  rintro h _ ⟨p, hp, ha, rfl⟩
  exact h p hp ha

/-- The rights over a slot in the words of R103, the strap drawn out. -/
theorem mayEditDiscount_iff_strap (regions : Byte) : mayEditDiscount l n regions s = true ↔
    ((discountSlot n s).regions = 0 → regions = 0 → s.strap = true ∨ (accessAt l s).edit ≠ 0) ∧
      (s.strap = true ∨ ∀ m, inSet (discountSlot n s).regions m = true ∨ inSet regions m = true →
        inSet (accessAt l s).edit m = true) := by
  rw [mayEditDiscount_iff, mayEditSome_iff, ← mayEdit_every_iff]

theorem editDiscountTests_of_passed {r : DiscountArg} (hn : n < 8) (hr : mayEditDiscount l n r.regions s = true) :
    editDiscountTests l n r s = none :=
  firstFailed_inRange hn <| firstFailed_having hr rfl

/-- Settles O44: each check and right as its rule words it, then the first failed test of each request. -/
theorem catalogEditRefusals : Obligations.CatalogEditRefusals := by
  refine ⟨nameOk_iff, servicesOk_iff, planOk_iff, extraOk_iff, discountOfArg_iff,
    fun l n s => ⟨mayEditExtra_iff_strap, mayEditDiscount_iff_strap⟩,
    fun l n s h => ⟨fun name => ?service, fun p => ?plan, fun e => ?extra, fun r => ?discount, fun last => ?lock⟩⟩
  case service =>
    refine ⟨fun hp => ?_, fun hp hn => ?_, fun hp hn hbad => ?_⟩ <;> refine editService_refused h ?_
    · exact firstFailed_lacking hp
    · exact firstFailed_having hp <| firstFailed_here decide_eq_true_iff hn
    · exact firstFailed_having hp <| firstFailed_inRange hn <| firstFailed_lacking hbad
  case plan =>
    refine ⟨fun hn => ?_, fun hn hr => ?_, fun hn hr hl => ?_, fun hn hr hl hbad => ?_⟩ <;> refine editPlan_refused h ?_
    · exact firstFailed_here decide_eq_true_iff hn
    · exact firstFailed_inRange hn <| firstFailed_here (planRights_iff p) hr
    · exact firstFailed_inRange hn <| firstFailed_after (planRights_iff p) (not_not.mpr hr) <| firstFailed_here planLocked_iff hl
    · exact firstFailed_inRange hn <| firstFailed_after (planRights_iff p) (not_not.mpr hr) <|
        firstFailed_after planLocked_iff hl <| firstFailed_lacking hbad
  case extra =>
    refine ⟨fun hn => ?_, fun hn hr => ?_, fun hn hr hbad => ?_⟩ <;> refine editExtra_refused h ?_
    · exact firstFailed_here decide_eq_true_iff hn
    · exact firstFailed_inRange hn <| firstFailed_lacking hr
    · exact firstFailed_inRange hn <| firstFailed_having hr <| firstFailed_lacking hbad
  case discount =>
    refine ⟨fun hn => ?_, fun hn hr => ?_, fun hn hr hbad => ?_⟩
    · exact editDiscount_refused h (firstFailed_here decide_eq_true_iff hn)
    · exact editDiscount_refused h (firstFailed_inRange hn <| firstFailed_lacking hr)
    · exact editDiscount_invalid h (editDiscountTests_of_passed hn hr) hbad
  case lock =>
    refine ⟨fun hp => ?_, fun hp hout => ?_, fun hp hn hlast => ?_, fun hp hlast horder hfull => ?_⟩ <;>
      refine lockRange_refused h ?_
    · exact firstFailed_lacking hp
    · exact firstFailed_having hp <| firstFailed_here (lockOutside_iff n last) hout
    · exact firstFailed_having hp <| firstFailed_after (lockOutside_iff n last) (by omega) <|
        firstFailed_here decide_eq_true_iff hlast
    · exact firstFailed_having hp <| firstFailed_after (lockOutside_iff n last) (by omega) <|
        firstFailed_after decide_eq_true_iff (not_lt.mpr horder) <| firstFailed_here locksFull_iff hfull

/-! ## Edits that are taken (R99, R101 to R103, R181) -/

theorem editService_taken {name : List Byte} (h : Ready l s) (ht : editServiceTests l n name s = none) :
    Answered l 0x33 s (exec (.editService l n name) s) .ok [] (editService n name s) :=
  request_taken (i := .editService l n name) h (run := editServiceRequest l n name) (by rw [editServiceRequest, ht])
    (reevaluate_inert _ .edit).raised

theorem editPlan_taken {p : Plan} (h : Ready l s) (ht : editPlanTests l n p s = none) :
    Answered l 0x30 s (exec (.editPlan l n p) s) .ok [] (editPlan n p s) :=
  request_taken (i := .editPlan l n p) h (run := editPlanRequest l n p) (by rw [editPlanRequest, ht])
    (reevaluate_inert _ .edit).raised

theorem editExtra_taken {e : Extra} (h : Ready l s) (ht : editExtraTests l n e s = none) :
    Answered l 0x31 s (exec (.editExtra l n e) s) .ok [] (editExtra n e s) :=
  request_taken (i := .editExtra l n e) h (run := editExtraRequest l n e) (by rw [editExtraRequest, ht])
    (reevaluate_inert _ .edit).raised

theorem editDiscount_taken {r : DiscountArg} {d : Discount} (h : Ready l s) (ht : editDiscountTests l n r s = none)
    (hd : discountOfArg r = some d) : Answered l 0x32 s (exec (.editDiscount l n r) s) .ok [] (editDiscount n d s) :=
  request_taken (i := .editDiscount l n r) h (run := editDiscountRequest l n r) (by rw [editDiscountRequest, ht, hd])
    (reevaluate_inert _ .edit).raised

theorem lockRange_taken {last : Nat} (h : Ready l s) (ht : lockRangeTests l n last s = none) :
    Answered l 0x34 s (exec (.lockRange l n last) s) .ok (put8 (s.locks.length + 1)) { s with locks := s.locks ++ [(n, last)] } :=
  request_taken (i := .lockRange l n last) h (run := lockRangeRequest l n last) (by rw [lockRangeRequest, ht]) rfl

/-- Settles O43: a request that fails no test writes its record. -/
theorem catalogEditsReplaceTheRecord : Obligations.CatalogEditsReplaceTheRecord := by
  refine fun l n s h => ⟨fun name hp hn hok => ?service, fun p hn hpresent hnew hfree hok => ?plan,
    fun e hn hsome hnone hok => ?extra, fun r d hn hsome hnone hd => ?discount, fun last hp horder hlast hroom => ?lock⟩
  case service =>
    exact editService_taken h (firstFailed_having hp <| firstFailed_inRange hn <| firstFailed_having hok rfl)
  case plan =>
    have hunlocked : ¬ ∃ r ∈ s.locks, r.1 ≤ n ∧ n ≤ r.2 := by
      rintro ⟨r, hr, hfirst, hlast⟩
      have hapart := hfree r hr
      omega
    exact editPlan_taken h (firstFailed_inRange hn <|
      firstFailed_after (planRights_iff p) (not_not.mpr ⟨hpresent, hnew⟩) <| firstFailed_after planLocked_iff hunlocked <|
      firstFailed_having hok rfl)
  case extra =>
    have hrights : mayEditExtra l n s = true := mayEditExtra_iff.mpr ⟨hnone, hsome⟩
    exact editExtra_taken h (firstFailed_inRange hn <| firstFailed_having hrights <| firstFailed_having hok rfl)
  case discount =>
    have hrights : mayEditDiscount l n r.regions s = true :=
      (mayEditDiscount_iff _).mpr ⟨fun hold hempty => hnone ⟨hold, hempty⟩,
        fun m hm => hsome m (hm.elim inSet_lt inSet_lt) hm⟩
    exact editDiscount_taken h (editDiscountTests_of_passed hn hrights) hd
  case lock =>
    exact lockRange_taken h (firstFailed_having hp <| firstFailed_after (lockOutside_iff n last) (by omega) <|
      firstFailed_after decide_eq_true_iff (not_lt.mpr horder) <| firstFailed_after locksFull_iff (not_le.mpr hroom) rfl)

end Sys2Proof.Machine
end

section
/-! The requests on the banks (R155, R156, R158, R159): CLOSEOUT, READ_JOURNAL and RELEASE_BANK with their tests and effects. -/

namespace Sys2Proof.Machine

variable {l : Fin 4} {s : State} {b : BankId} {st : Status}

/-! ## Bank letters and the ACTIVE bank (R145, R194) -/

theorem bankOf_bankCode : ∀ b : BankId, bankOf (bankCode b) = some b
  | .bankA => rfl
  | .bankB => rfl

theorem bankOf_eq_none {code : Nat} (h : code = 0 ∨ 2 < code) : bankOf code = none := by
  match code with
  | 0 => rfl
  | 1 => omega
  | 2 => omega
  | _ + 3 => rfl

/-- With one ACTIVE bank, a bank that is ACTIVE is the one that records go to. -/
theorem activeBank_of_active (h : OneActive s) (hb : (bankAt b s).state = .active) : activeBank s = b := by
  cases b with
  | bankA => exact if_pos hb
  | bankB =>
    obtain ⟨-, hother⟩ | ⟨-, hother⟩ := h
    · exact absurd hb hother
    · exact if_neg hother

/-! ## CLOSEOUT (R155, R156) -/

theorem closeout_refused (h : Ready l s) (ht : closeoutTests l s = some st) : Refused l 0x40 s (exec (.closeout l) s) st :=
  request_refused (i := .closeout l) h (run := closeoutRequest l) (by rw [closeoutRequest, ht])

theorem bankBusy_iff (c : BankId) : ((bankAt c s).state != .empty) = true ↔ (bankAt c s).state ≠ .empty := bne_iff_ne

theorem closedState_of_empty (h : carsOn b s = 0) : closedState b s = .sealed := if_pos h

theorem closedState_of_carried (h : carsOn b s ≠ 0) : closedState b s = .draining := if_neg h

/-- The notices of a closeout on a part whose outbox is empty: CLOSEOUT, and SEALED where no car carries the closed bank. -/
def closeoutNotices (b : BankId) (s : State) : List Notice :=
  ⟨.journal, none, put8 1 ++ put8 (bankCode b) ++ closeoutContents b s⟩ ::
    if carsOn b s = 0 then
      [⟨.journal, none, put8 2 ++ put8 (bankCode b)
        ++ (put16 (bankAt b s).written ++ put32 (bankAt b s).overflow ++ put64 (bankAt b s).revenue)⟩]
    else []

/-- The closed bank leaves ACTIVE, the other starts at zero, and each change is noticed. -/
theorem closeBank_eq (ho : s.outbox = []) : closeBank b s =
    { modifyBank (otherBank b) (fun _ => zeroedBank .active) (modifyBank b (fun k => { k with state := closedState b s }) s) with
      outbox := closeoutNotices b s } := by
  unfold closeBank closeoutNotices
  by_cases hcars : carsOn b s = 0
  · rw [if_pos hcars, closedState_of_empty hcars]
    cases b <;> simp [journalNotice, sealedNotice, notify, ho, closeoutKind, sealedKind] <;> rfl
  · rw [if_neg hcars, closedState_of_carried hcars]
    cases b <;> simp [journalNotice, notify, ho, closeoutKind]

theorem closeBank_inert (b : BankId) (s : State) : Inert s (closeBank b s) := by
  have hclosed : Inert s (modifyBank (otherBank b) (fun _ => zeroedBank .active)
      (modifyBank b (fun k => { k with state := closedState b s }) s)) := (modifyBank_inert s _ _).trans (modifyBank_inert _ _ _)
  unfold closeBank
  dsimp only
  split
  · exact (hclosed.trans (journalNotice_inert _ _ _ _)).trans (sealedNotice_inert _ _)
  · exact hclosed.trans (journalNotice_inert _ _ _ _)

theorem closeout_taken (h : Ready l s) (ha : OneActive s) (hb : (bankAt b s).state = .active)
    (hp : permitted l .closeout s = true) (hempty : (bankAt (otherBank b) s).state = .empty) :
    Answered l 0x40 s (exec (.closeout l) s) .ok (put8 (bankCode b) ++ closeoutContents b s) (closeBank b s) := by
  have htests : closeoutTests l s = none := by
    rw [closeoutTests, activeBank_of_active ha hb]
    exact firstFailed_having hp (firstFailed_after (bankBusy_iff _) (not_not.mpr hempty) rfl)
  exact request_taken (i := .closeout l) h (run := closeoutRequest l)
    (by rw [closeoutRequest, htests, activeBank_of_active ha hb]) (closeBank_inert b s).raised

/-! ## The tests that READ_JOURNAL and RELEASE_BANK share (R158, R159) -/

theorem bank_refused {code : Nat} (h : Ready l s) (ht : bankTests l code s = some st) :
    (∀ first, Refused l 0x41 s (exec (.readJournal l code first) s) st) ∧
      Refused l 0x42 s (exec (.releaseBank l code) s) st :=
  ⟨fun first => request_refused (i := .readJournal l code first) h (run := readJournalRequest l code first)
      (by rw [readJournalRequest, ht]),
    request_refused (i := .releaseBank l code) h (run := releaseBankRequest l code) (by rw [releaseBankRequest, ht])⟩

theorem bankTests_of_unknown {code : Nat} (hp : permitted l .closeout s = true) (h : code = 0 ∨ 2 < code) :
    bankTests l code s = some .unknown := by
  rw [bankTests, bankOf_eq_none h]
  exact firstFailed_having hp rfl

theorem bankTests_eq (b : BankId) (hp : permitted l .closeout s = true) :
    bankTests l (bankCode b) s = if (bankAt b s).state = .sealed then none else some .state := by
  rw [bankTests, bankOf_bankCode]
  by_cases hsealed : (bankAt b s).state = .sealed <;> simp [firstFailed, hp, hsealed]

/-! ## READ_JOURNAL (R158) -/

theorem read_refused {first : Option Nat} (h : Ready l s) (ht : bankTests l (bankCode b) s = none)
    (hr : readStart (bankAt b s) first = .error st) : Refused l 0x41 s (exec (.readJournal l (bankCode b) first) s) st :=
  request_refused (i := .readJournal l (bankCode b) first) h (run := readJournalRequest l (bankCode b) first)
    (by simp only [readJournalRequest, ht, bankOf_bankCode, hr])

theorem read_taken {first : Option Nat} {start : Nat} (h : Ready l s) (ht : bankTests l (bankCode b) s = none)
    (hr : readStart (bankAt b s) first = .ok start) :
    let records := fittingRecords 4 recordRoom ((bankAt b s).records.drop (start - 1))
    let after := (bankAt b s).readTo (start - 1 + records.length)
    Answered l 0x41 s (exec (.readJournal l (bankCode b) first) s) .ok
      (put8 (bankCode b) ++ putHeader after ++ put16 start ++ putList putRecord records) (modifyBank b (fun _ => after) s) := by
  intro records after
  have hkept : modifyBank b (fun _ => after) s = modifyBank b (Bank.readTo (start - 1 + records.length)) s := modifyBank_congr rfl
  rw [hkept]
  exact request_taken (i := .readJournal l (bankCode b) first) h (run := readJournalRequest l (bankCode b) first)
    (by simp only [readJournalRequest, ht, bankOf_bankCode, hr, readRecords, bankAt_modifyBank_same, records, after])
    (modifyBank_inert s b _).raised

theorem readStart_unread (k : Bank) : readStart k none = if k.unread = 0 then .error .empty else .ok (k.cursor + 1) := rfl

theorem readStart_named (k : Bank) (f : Nat) : readStart k (some f) =
    if f < 1 ∨ 256 < f then .error .invalid else if k.written < f then .error .empty else .ok f := by
  have hrange : (!within 1 bankCapacity f) = true ↔ f < 1 ∨ 256 < f := by
    rw [Bool.not_eq_true', within_eq_false_iff, bankCapacity]
  simp only [readStart, hrange]

/-! ## RELEASE_BANK (R159) -/

theorem releaseBank_eq (ho : s.outbox = []) : releaseBank b s = { modifyBank b (fun _ => zeroedBank .empty) s with
    outbox := [⟨.journal, none, put8 5 ++ put8 (bankCode b) ++ put16 (bankAt b s).unread⟩] } := by
  cases b <;> simp [releaseBank, journalNotice, notify, ho, releasedKind]

theorem release_taken (h : Ready l s) (ht : bankTests l (bankCode b) s = none) :
    Answered l 0x42 s (exec (.releaseBank l (bankCode b)) s) .ok (put16 (bankAt b s).unread) (releaseBank b s) :=
  request_taken (i := .releaseBank l (bankCode b)) h (run := releaseBankRequest l (bankCode b))
    (by rw [releaseBankRequest, ht, bankOf_bankCode])
    ((modifyBank_inert s b _).trans (journalNotice_inert _ _ _ _)).raised

/-! ## The statement -/

/-- Settles O48: the tests in their order, then the effect on the banks and the notices of it. -/
theorem banksAreClosedReadAndReleased : Obligations.BanksAreClosedReadAndReleased := by
  intro l s h ha
  obtain ⟨⟨-, -, houtbox⟩, -⟩ := id h
  refine ⟨fun b hb => ?closeout, fun code => ⟨fun hp => bank_refused h (firstFailed_lacking hp), fun hp =>
    ⟨fun hcode => bank_refused h (bankTests_of_unknown hp hcode), ?banks⟩⟩⟩
  case closeout =>
    intro o other cars state contents closed k
    refine ⟨fun hp => closeout_refused h (firstFailed_lacking hp), fun hp hbusy => ?_, fun hp hempty => ?_⟩
    · refine closeout_refused h ?_
      rw [closeoutTests, activeBank_of_active ha hb]
      exact firstFailed_having hp (firstFailed_here (bankBusy_iff _) hbusy)
    · have htaken := closeout_taken h ha hb hp hempty
      rwa [closeBank_eq houtbox] at htaken
  case banks =>
    rintro b rfl k read
    have htests := bankTests_eq b hp
    refine ⟨fun hstate => bank_refused h (htests.trans (if_neg hstate)), fun hsealed => ?_⟩
    rw [if_pos hsealed] at htests
    refine ⟨fun hnone => ?_, fun hsome => ?_, fun f hf => ?_, fun f hlow hhigh hbeyond => ?_, fun f hlow hhigh hheld => ?_, ?_⟩
    · exact read_refused h htests ((readStart_unread k).trans (if_pos hnone))
    · exact read_taken h htests ((readStart_unread k).trans (if_neg hsome))
    · exact read_refused h htests ((readStart_named k f).trans (if_pos hf))
    · have hin : ¬ (f < 1 ∨ 256 < f) := by omega
      exact read_refused h htests ((readStart_named k f).trans ((if_neg hin).trans (if_pos hbeyond)))
    · have hin : ¬ (f < 1 ∨ 256 < f) := by omega
      have hstart : readStart k (some f) = .ok f :=
        (readStart_named k f).trans ((if_neg hin).trans (if_neg (not_lt.mpr hheld)))
      have hnamed : (if f = 0 then none else some f) = some f := if_neg (by omega)
      show Answered _ _ _ (exec (.readJournal l (bankCode b) (if f = 0 then none else some f)) s) _ _ _
      rw [hnamed]
      exact read_taken h htests hstart
    · have htaken := release_taken h htests
      rwa [releaseBank_eq houtbox] at htaken

end Sys2Proof.Machine
end

section
/-! SUPPORT. The journal under operations that write nothing to it: one lemma for each (R145 to R162 name what does). -/

namespace Sys2Proof.Machine

theorem foldl_journal {α : Type} (f : State → α → State) (h : ∀ s a, (f s a).journal = s.journal) (l : List α) (s : State) :
    (l.foldl f s).journal = s.journal :=
  List.foldlRecOn (motive := fun t => t.journal = s.journal) l f rfl fun t ht a _ => (h t a).trans ht

variable (s : State)

/-! ## Plain updates -/

@[simp] theorem tagCar_journal (n : Nat) (t : Tag) : (tagCar n t s).journal = s.journal := rfl
@[simp] theorem setStatus_journal (n : Nat) (a : Fin 12) (st : ArchStatus) : (setStatus n a st s).journal = s.journal := rfl
@[simp] theorem markHalt_journal (n : Nat) : (markHalt n s).journal = s.journal := rfl
@[simp] theorem recomputeClass_journal : (recomputeClass s).journal = s.journal := rfl
@[simp] theorem startReturn_journal (a : Fin 12) : (startReturn a s).journal = s.journal := rfl
@[simp] theorem archNotice_journal (r : ArchReason) (a : Fin 12) : (archNotice r a s).journal = s.journal := rfl
@[simp] theorem insertEvent_journal (a : Fin 12) (e : ArchEvent) : (insertEvent a e s).journal = s.journal := rfl
@[simp] theorem dropTrailing_journal (n : Nat) : (dropTrailing n s).journal = s.journal := rfl
@[simp] theorem journalNotice_journal (kind : Nat) (b : BankId) (contents : List Byte) :
    (journalNotice kind b contents s).journal = s.journal := rfl
@[simp] theorem sealedNotice_journal (b : BankId) : (sealedNotice b s).journal = s.journal := rfl
@[simp] theorem ticketNotice_journal (k : TicketNoticeKind) (t : Ticket) (left : Nat) (more : List Byte) :
    (ticketNotice k t left more s).journal = s.journal := rfl
@[simp] theorem payTicket_journal (t : Ticket) (tender : Option Tender) (lapses : Nat) :
    (payTicket t tender lapses s).journal = s.journal := rfl
@[simp] theorem changeTunnel_journal (new : TunnelState) (r : ChangeReason) (n : Nat) (more : List Byte) :
    (changeTunnel new r n more s).journal = s.journal := rfl
@[simp] theorem restartStep_journal (new : TunnelState) (r : ChangeReason) (n : Nat) (more : List Byte) :
    (restartStep new r n more s).journal = s.journal := rfl
@[simp] theorem endAttempt_journal (r : ChangeReason) (more : List Byte) : (endAttempt r more s).journal = s.journal := rfl
@[simp] theorem endCall_journal (k : Call) : (endCall k s).journal = s.journal := rfl
@[simp] theorem endRehearsal_journal (e : RunEnding) (c : Car) : (endRehearsal e c s).journal = s.journal := rfl
@[simp] theorem furtherCause_journal (c : Cause) : (furtherCause c s).journal = s.journal := rfl
@[simp] theorem passUnit_journal : (passUnit s).journal = s.journal := rfl

@[simp] theorem evaluateRun_journal : (evaluateRun s).journal = s.journal := by
  unfold evaluateRun
  repeat' split
  all_goals rfl

/-! ## Cars and their classes -/

@[simp] theorem setClass_journal (n k : Nat) : (setClass n k s).journal = s.journal := by
  unfold setClass
  repeat' split
  all_goals rfl

@[simp] theorem computeClass_journal (n : Nat) : (computeClass n s).journal = s.journal := by
  unfold computeClass
  split
  · rfl
  · split <;> simp

@[simp] theorem paceSample_journal (n : Nat) : (paceSample n s).journal = s.journal := by
  unfold paceSample
  split
  · rfl
  · split <;> simp

@[simp] theorem joinDomain_journal (n : Nat) : (joinDomain n s).journal = s.journal := by
  unfold joinDomain
  repeat' split
  all_goals rfl

@[simp] theorem handStatus_journal (a : Fin 12) (n : Nat) : (handStatus a n s).journal = s.journal := by
  unfold handStatus statusSettled
  repeat' split
  all_goals rfl

/-! ## Arches -/

@[simp] theorem reevaluate_journal (r : AvailabilityReason) : (reevaluate r s).journal = s.journal :=
  (foldl_journal _ (fun u _ => notify_journal u _ _) _ _).trans (foldl_journal _ (fun u _ => notify_journal u _ _) _ _)

@[simp] theorem insertEngages_journal (n : Nat) : (insertEngages n s).journal = s.journal := by
  unfold insertEngages
  split
  · rfl
  · split
    · rfl
    · exact foldl_journal _ (fun t a => insertEvent_journal t a _) _ s

@[simp] theorem insertReleases_journal (n : Nat) : (insertReleases n s).journal = s.journal := by
  unfold insertReleases
  split
  · rfl
  · split
    · rfl
    · exact foldl_journal _ (fun t a => insertEvent_journal t a _) _ s

@[simp] theorem insertAbsent_journal (n : Nat) : (insertAbsent n s).journal = s.journal := by
  unfold insertAbsent
  split
  · rfl
  · split
    · rfl
    · exact (foldl_journal _ (fun t a => by simp) _ _).trans (foldl_journal _ (fun t a => setStatus_journal t n a _) _ s)

@[simp] theorem purgeCar_journal (n : Nat) : (purgeCar n s).journal = s.journal := by
  refine foldl_journal (purgeArch n) (fun t a => ?_) _ s
  unfold purgeArch
  dsimp only
  split <;> rfl

@[simp] theorem clearArch_journal (a : Fin 12) : (clearArch s a).journal = s.journal := by
  unfold clearArch
  dsimp only
  split <;> rfl

@[simp] theorem withdrawAll_journal : (withdrawAll s).journal = s.journal := by
  refine foldl_journal withdraw (fun t a => ?_) _ s
  unfold withdraw
  dsimp only
  split
  · split <;> simp
  · rfl

@[simp] theorem fireEngage_journal (a : Fin 12) (n : Nat) : (fireEngage a n s).journal = s.journal := by
  unfold fireEngage
  split
  · rfl
  · dsimp only
    repeat' split
    all_goals simp

@[simp] theorem fireRelease_journal (a : Fin 12) (n : Nat) : (fireRelease a n s).journal = s.journal := by
  unfold fireRelease
  dsimp only
  repeat' split
  all_goals simp

@[simp] theorem fireDue_journal (a : Fin 12) (p : Pos) (before : List ArchEvent) : (fireDue a p before s).journal = s.journal := by
  refine (foldl_journal _ (fun t e => ?_) _ _).trans rfl
  unfold fireEvent
  split <;> simp

@[simp] theorem tripsOut_journal (a : Fin 12) : (tripsOut a s).journal = s.journal := by
  unfold tripsOut
  split <;> simp

@[simp] theorem trip_journal (a : Fin 12) (n : Nat) : (trip a n s).journal = s.journal := by
  unfold trip
  dsimp only
  split <;> simp

@[simp] theorem loadCheck_journal (a : Fin 12) : (loadCheck a s).journal = s.journal := by
  unfold loadCheck
  dsimp only
  repeat' split
  all_goals simp

@[simp] theorem afterFollow_journal (a : Fin 12) (n : Nat) (p : Pos) (f : Followed) :
    (afterFollow a n p f s).journal = s.journal := by
  unfold afterFollow writeTrace
  dsimp only
  repeat' split
  all_goals rfl

@[simp] theorem followStep_journal (a : Fin 12) (p : Pos) (settle : Nat) : (followStep a p settle s).journal = s.journal := by
  unfold followStep
  dsimp only
  repeat' split
  all_goals simp

theorem archPitch_journal (a : Fin 12) (p : Pos) (settle : Nat) (before : List ArchEvent) :
    (archPitch a p settle before s).journal = s.journal := by
  simp [archPitch]

/-! ## The station -/

@[simp] theorem finishProfile_journal (n : Nat) (final : ProfileState) : (finishProfile n final s).journal = s.journal := by
  simp [finishProfile]

@[simp] theorem makeAbsent_journal (n : Nat) : (makeAbsent n s).journal = s.journal := by
  unfold makeAbsent
  dsimp only
  split <;> simp

@[simp] theorem setOrigin_journal (n : Nat) (p : Pos) (top : Nat) (g : GaugeCodes) :
    (setOrigin n p top g s).journal = s.journal := by
  unfold setOrigin
  dsimp only
  split <;> simp

@[simp] theorem searchPitch_journal (n : Nat) (p : Pos) (g : GaugeCodes) : (searchPitch n p g s).journal = s.journal := by
  unfold searchPitch
  dsimp only
  repeat' split
  all_goals simp

@[simp] theorem handleSample_journal (n : Nat) (first : Pos) (next : Nat) (absent : Bool) (x : Sample) :
    (handleSample n first next absent x s).journal = s.journal := by
  unfold handleSample appendSample
  repeat' split
  all_goals simp

@[simp] theorem samplePitchStep_journal (n : Nat) (first : Pos) (next : Nat) (absent : Bool) (last : Sample) (p : Pos)
    (g : GaugeCodes) : (samplePitchStep n first next absent last p g s).journal = s.journal := by
  unfold samplePitchStep
  dsimp only
  split
  · split <;> simp
  · rfl

theorem stationPitch_journal (p : Pos) (g : GaugeCodes) : (stationPitch p g s).journal = s.journal := by
  unfold stationPitch
  split <;> simp

@[simp] theorem settleWatched_journal : (settleWatched s).journal = s.journal := by
  unfold settleWatched
  split
  · rfl
  · simp
  · dsimp only
    split <;> simp

@[simp] theorem unwatch_journal (n : Nat) : (unwatch n s).journal = s.journal := by
  unfold unwatch
  repeat' split
  all_goals rfl

/-! ## Calls, the tunnel and the links -/

@[simp] theorem closeIfEmpty_journal : (closeIfEmpty s).journal = s.journal := by
  unfold closeIfEmpty
  split <;> simp

@[simp] theorem arbitrateWith_journal (gap : Bool) : (arbitrateWith gap s).journal = s.journal := by
  have hissue (t : Ticket) : (issueCall t s).journal = s.journal := (evaluateRun_journal _).trans rfl
  unfold arbitrateWith
  split
  · split <;> simp [hissue]
  · rfl

@[simp] theorem arbitrate_journal : (arbitrate s).journal = s.journal := arbitrateWith_journal s _

@[simp] theorem cancelCall_journal : (cancelCall s).journal = s.journal := by
  unfold cancelCall
  dsimp only
  repeat' split
  all_goals rfl

@[simp] theorem forgetTicket_journal (n : Nat) : (forgetTicket n s).journal = s.journal := by
  unfold forgetTicket
  repeat' split
  all_goals rfl

@[simp] theorem releaseRemembered_journal (n : Nat) : (releaseRemembered n s).journal = s.journal := by
  unfold releaseRemembered
  repeat' split
  all_goals simp

@[simp] theorem abandonRehearsal_journal (n : Nat) : (abandonRehearsal n s).journal = s.journal := by
  unfold abandonRehearsal
  repeat' split
  all_goals rfl

@[simp] theorem endHalt_journal (e : HaltEnding) : (endHalt e s).journal = s.journal := by
  unfold endHalt
  split <;> rfl

@[simp] theorem enterOpen_journal : (enterOpen s).journal = s.journal := by simp [enterOpen]

@[simp] theorem missingPitch_journal (p : Pos) : (missingPitch p s).journal = s.journal := by
  unfold missingPitch
  repeat' split
  all_goals rfl

@[simp] theorem flush_journal : (flush s).journal = s.journal := by
  obtain ⟨links, -, h⟩ := flush_frame s
  rw [h]

@[simp] theorem answer_journal (l : Fin 4) (kind : Byte) (x : State × Reply) : (answer l kind x).journal = x.1.journal := by
  obtain ⟨links, -, h⟩ := answer_frame l kind x
  rw [h]

/-! ## Expiries -/

theorem callLapses_journal : (callLapses s).journal = s.journal := by
  have hlapsed (t : Ticket) : (lapseTicket t s).journal = s.journal := by
    unfold lapseTicket
    dsimp only
    split <;> rfl
  unfold callLapses
  split
  · rfl
  · split
    · refine (evaluateRun_journal _).trans ?_
      split
      · rfl
      · exact hlapsed _
    · rfl

theorem graceExpires_journal : (graceExpires s).journal = s.journal := by
  unfold graceExpires
  split <;> simp

theorem holdExpires_journal (n : Nat) : (holdExpires n s).journal = s.journal := by
  unfold holdExpires
  repeat' split
  all_goals rfl

theorem windowExpires_journal : (windowExpires s).journal = s.journal := by
  unfold windowExpires
  split <;> rfl

theorem saveReported_journal (passed : Bool) : (saveReported passed s).journal = s.journal := by
  unfold saveReported
  split <;> rfl

theorem saveExpires_journal (verified : Bool) : (saveExpires verified s).journal = s.journal := by
  unfold saveExpires
  repeat' split
  all_goals rfl

theorem pulseEnds_journal : (pulseEnds s).journal = s.journal := by
  unfold pulseEnds
  split <;> rfl

theorem treadleOpens_journal (t : Treadle) : (treadleOpens t s).journal = s.journal := by cases t <;> rfl

/-! ## Requests -/

theorem confirmRequest_journal (l : Fin 4) (n tender : Nat) : (confirmRequest l n tender s).1.journal = s.journal := by
  unfold confirmRequest
  repeat' split
  all_goals simp

theorem cancelRequest_journal (l : Fin 4) (n : Nat) : (cancelRequest l n s).1.journal = s.journal := by
  unfold cancelRequest
  split <;> rfl

theorem quoteRequest_journal (l : Fin 4) (plan : Nat) (extras : List Nat) (slot lane : Option Nat) :
    (quoteRequest l plan extras slot lane s).1.journal = s.journal := by
  unfold quoteRequest
  split <;> rfl

theorem requeueRequest_journal (l : Fin 4) (n : Nat) : (requeueRequest l n s).1.journal = s.journal := by
  unfold requeueRequest requeueTicket
  split <;> simp

theorem openTunnelRequest_journal (l : Fin 4) : (openTunnelRequest l s).1.journal = s.journal := by
  unfold openTunnelRequest openUnderHalt setResume
  repeat' split
  all_goals simp

theorem closeTunnelRequest_journal (l : Fin 4) : (closeTunnelRequest l s).1.journal = s.journal := by
  unfold closeTunnelRequest closeUnderHalt closeFromOpen setResume
  repeat' split
  all_goals simp

theorem resumeTunnel_journal (first second : Fin 4) : (resumeTunnel first second s).journal = s.journal := by
  have hafter (t : State) : (afterResume t).journal = t.journal := by
    unfold afterResume
    split <;> simp
  simp [resumeTunnel, hafter]

theorem restartRequest_journal (l : Fin 4) : (restartRequest l s).1.journal = s.journal := by
  have hconfirm : (confirmRestart l s).1.journal = s.journal := by
    unfold confirmRestart
    split
    · rfl
    · split
      · rfl
      · split
        · exact resumeTunnel_journal s _ _
        · rfl
  unfold restartRequest
  split
  · rfl
  · split
    · rfl
    · exact hconfirm
    all_goals rfl

theorem setArchRequest_journal (l : Fin 4) (n : Nat) (record : LayoutArg) :
    (setArchRequest l n record s).1.journal = s.journal := by
  unfold setArchRequest setArchRecord
  repeat' split
  all_goals simp

theorem setArchServiceRequest_journal (l : Fin 4) (n setting : Nat) :
    (setArchServiceRequest l n setting s).1.journal = s.journal := by
  have hout (a : Fin 12) : (takeOut a s).journal = s.journal := by
    unfold takeOut
    dsimp only
    split
    · split <;> simp
    · rfl
  unfold setArchServiceRequest setService putBack
  repeat' split
  all_goals simp [hout]

theorem clearJamRequest_journal (l : Fin 4) (n : Nat) : (clearJamRequest l n s).1.journal = s.journal := by
  unfold clearJamRequest clearJam
  split <;> simp

theorem editPlanRequest_journal (l : Fin 4) (n : Nat) (p : Plan) : (editPlanRequest l n p s).1.journal = s.journal := by
  unfold editPlanRequest editPlan
  split <;> simp

theorem editExtraRequest_journal (l : Fin 4) (n : Nat) (e : Extra) : (editExtraRequest l n e s).1.journal = s.journal := by
  unfold editExtraRequest editExtra
  split <;> simp

theorem editDiscountRequest_journal (l : Fin 4) (n : Nat) (r : DiscountArg) :
    (editDiscountRequest l n r s).1.journal = s.journal := by
  unfold editDiscountRequest editDiscount
  split <;> simp

theorem editServiceRequest_journal (l : Fin 4) (n : Nat) (name : List Byte) :
    (editServiceRequest l n name s).1.journal = s.journal := by
  unfold editServiceRequest editService
  split <;> simp

theorem lockRangeRequest_journal (l : Fin 4) (first last : Nat) : (lockRangeRequest l first last s).1.journal = s.journal := by
  unfold lockRangeRequest
  split <;> rfl

theorem setGaugeRequest_journal (l : Fin 4) (gauge first : Nat) (values : List Nat) :
    (setGaugeRequest l gauge first values s).1.journal = s.journal := by
  unfold setGaugeRequest
  split <;> rfl

theorem setSiteRequest_journal (l : Fin 4) (p : Site) : (setSiteRequest l p s).1.journal = s.journal := by
  unfold setSiteRequest
  split <;> rfl

theorem setTestProfileRequest_journal (l : Fin 4) (profile length first : Nat) (samples : List Sample) :
    (setTestProfileRequest l profile length first samples s).1.journal = s.journal := by
  unfold setTestProfileRequest takePiece
  dsimp only
  repeat' split
  all_goals rfl

theorem setAccessRequest_journal (l : Fin 4) (target : Nat) (e : Access) :
    (setAccessRequest l target e s).1.journal = s.journal := by
  unfold setAccessRequest
  split <;> rfl

theorem saveStoreRequest_journal (l : Fin 4) : (saveStoreRequest l s).1.journal = s.journal := by
  unfold saveStoreRequest
  split <;> rfl

theorem beginRehearsal_journal (profile plan : Nat) (traced : Option Nat) (samples : List Sample) :
    (beginRehearsal profile plan traced samples s).journal = s.journal := by
  simp [beginRehearsal, createPhantom, startRecord]

end Sys2Proof.Machine
end

section
/-! The books of the journal (R145, R152): one bank ACTIVE, and every bank's counts in step with the records submitted to it and
the cars that carry it. -/

namespace Sys2Proof.Machine

variable {s t : State} {b : BankId} {room left cars : Nat} {k : Bank}

/-! ## A bank and its cars -/

/-- A bank's counts in step with the cars that carry it (R152), and no car carrying it once it is SEALED or EMPTY (R145, R157). -/
structure Bank.Balances (k : Bank) (cars : Nat) : Prop where
  counts : k.state ≠ .empty → (k.admitted + k.voided) % modulus32 = (k.written + k.overflow + cars) % modulus32
  uncarried : k.state = .sealed ∨ k.state = .empty → cars = 0

/-- A bank that a car carries is neither SEALED nor EMPTY. -/
theorem Bank.Balances.open_of_carried (h : k.Balances (cars + 1)) : k.state ≠ .sealed ∧ k.state ≠ .empty :=
  ⟨fun hsealed => Nat.succ_ne_zero _ (h.uncarried (.inl hsealed)),
    fun hempty => Nat.succ_ne_zero _ (h.uncarried (.inr hempty))⟩

/-- Stored or spilled, a record adds one to the records written and overflowed (R153, R154). -/
theorem submitted_total (r : JournalRecord) (k : Bank) (n : Nat) :
    ((k.submitted r).written + (k.submitted r).overflow + n) % modulus32 = (k.written + k.overflow + 1 + n) % modulus32 := by
  unfold Bank.submitted
  split
  · simp only [Bank.store, Bank.account, modulus32]
    omega
  · simp only [Bank.spill, Bank.account, modulus32]
    omega

theorem submitted_header (r : JournalRecord) (k : Bank) :
    (k.submitted r).state = k.state ∧ (k.submitted r).admitted = k.admitted ∧ (k.submitted r).voided = k.voided := by
  obtain ⟨-, -, hheader⟩ := submitted_account r k
  simp only [Prod.mk.injEq] at hheader
  obtain ⟨hstate, -, hadmitted, hvoided⟩ := hheader
  exact ⟨hstate, hadmitted, hvoided⟩

/-- The record of a car takes the place of the car. -/
theorem Bank.Balances.submitted (r : JournalRecord) (h : k.Balances (cars + 1)) : (k.submitted r).Balances cars := by
  obtain ⟨hsealed, hempty⟩ := h.open_of_carried
  obtain ⟨hstate, hadmitted, hvoided⟩ := submitted_header r k
  refine ⟨fun _ => ?_, fun hclosed => absurd (hstate ▸ hclosed) (by simp [hsealed, hempty])⟩
  rw [hadmitted, hvoided, submitted_total, h.counts hempty, Nat.add_right_comm _ 1 cars, Nat.add_assoc _ cars 1]

/-- A DRAINING bank that no car carries any longer is SEALED (R157). -/
def Bank.drained (cars : Nat) (k : Bank) : Bank :=
  if k.state = .draining ∧ cars = 0 then { k with state := .sealed } else k

theorem drained_active_iff (cars : Nat) (k : Bank) : (k.drained cars).state = .active ↔ k.state = .active := by
  unfold Bank.drained
  split
  next hd =>
    obtain ⟨hdraining, -⟩ := hd
    simp [hdraining]
  · rfl

theorem Bank.Balances.drained (h : k.Balances cars) : (k.drained cars).Balances cars := by
  unfold Bank.drained
  split
  next hd =>
    obtain ⟨hdraining, hnone⟩ := hd
    exact ⟨fun _ => h.counts (by simp [hdraining]), fun _ => hnone⟩
  · exact h

/-- A voided or lost ticket is counted before its record is submitted (R151). -/
def Bank.countVoid (k : Bank) : Bank := { k with voided := (k.voided + 1) % modulus32 }

theorem Bank.Balances.countVoid (r : JournalRecord) (h : k.Balances cars) (ha : k.state = .active) :
    (k.countVoid.submitted r).Balances cars := by
  obtain ⟨hstate, hadmitted, hvoided⟩ := submitted_header r k.countVoid
  refine ⟨fun _ => ?_, fun hclosed => absurd (hstate ▸ hclosed) (by simp [Bank.countVoid, ha])⟩
  have hopen := h.counts (by simp [ha])
  rw [hadmitted, hvoided, submitted_total]
  simp only [Bank.countVoid, modulus32] at hopen ⊢
  omega

/-- A car is admitted under its bank (R147). -/
def Bank.countAdmission (k : Bank) : Bank := { k with admitted := (k.admitted + 1) % modulus32 }

theorem Bank.Balances.countAdmission (h : k.Balances cars) (ha : k.state = .active) : k.countAdmission.Balances (cars + 1) := by
  refine ⟨fun _ => ?_, fun hclosed => absurd hclosed (by simp [Bank.countAdmission, ha])⟩
  have hopen := h.counts (by simp [ha])
  simp only [Bank.countAdmission, modulus32] at hopen ⊢
  omega

/-- A change that leaves the state and the counts alone. -/
theorem Bank.Balances.of_header {m : Bank} (h : k.Balances cars) (hstate : m.state = k.state)
    (hcounts : (m.admitted, m.voided, m.written, m.overflow) = (k.admitted, k.voided, k.written, k.overflow)) :
    m.Balances cars := by
  simp only [Prod.mk.injEq] at hcounts
  obtain ⟨hadmitted, hvoided, hwritten, hoverflow⟩ := hcounts
  refine ⟨?_, ?_⟩
  · rw [hstate, hadmitted, hvoided, hwritten, hoverflow]
    exact h.counts
  · rw [hstate]
    exact h.uncarried

/-! ## Changes of a bank -/

theorem bankAt_modifyBank (c b : BankId) (f : Bank → Bank) (s : State) :
    bankAt c (modifyBank b f s) = if c = b then f (bankAt b s) else bankAt c s := by
  cases b <;> cases c <;> rfl

theorem modifyBank_modifyBank (b : BankId) (f g : Bank → Bank) (s : State) :
    modifyBank b g (modifyBank b f s) = modifyBank b (fun k => g (f k)) s := by cases b <;> rfl

theorem modifyBank_journal_congr (b : BankId) (f : Bank → Bank) (h : t.journal = s.journal) :
    (modifyBank b f t).journal = (modifyBank b f s).journal := by
  cases b <;> simp only [modifyBank, h]

theorem bankAt_congr (h : t.journal = s.journal) (b : BankId) : bankAt b t = bankAt b s := congrArg (Journal.bank b) h

theorem OneActive.congr (h : OneActive s) (hj : t.journal = s.journal) : OneActive t := by
  unfold OneActive
  rwa [hj]

theorem OneActive.modifyBank {f : Bank → Bank} (h : OneActive s)
    (hf : (f (bankAt b s)).state = .active ↔ (bankAt b s).state = .active) : OneActive (modifyBank b f s) := by
  cases b
  · exact h.imp (And.imp_left hf.mpr) (And.imp_right (mt hf.mp))
  · exact h.imp (And.imp_right (mt hf.mp)) (And.imp_left hf.mpr)

theorem activeBank_active (h : OneActive s) : (bankAt (activeBank s) s).state = .active := by
  obtain ⟨ha, -⟩ | ⟨hb, -⟩ := id h
  · rwa [activeBank_of_active (b := .bankA) h ha]
  · rwa [activeBank_of_active (b := .bankB) h hb]

theorem submit_journal (b : BankId) (r : JournalRecord) (s : State) :
    (submit b r s).journal = (modifyBank b (Bank.submitted r) s).journal := by rw [submit_eq]

theorem sealIfDrained_journal (b : BankId) (s : State) :
    (sealIfDrained b s).journal = (modifyBank b (Bank.drained (carsOn b s)) s).journal := by
  unfold sealIfDrained
  by_cases h : (bankAt b s).state = .draining ∧ carsOn b s = 0
  · rw [if_pos (by simp [h]), sealedNotice_journal]
    exact congrArg State.journal (modifyBank_congr (if_pos h).symm)
  · rw [if_neg (by simpa using h)]
    have hkept : modifyBank b (Bank.drained (carsOn b s)) s = modifyBank b id s := modifyBank_congr (if_neg h)
    rw [hkept]
    cases b <;> rfl

/-! ## The cars on the roll -/

/-- A car as the roll names it: its number, whether it is the phantom, its ticket and its bank. -/
abbrev RolledCar : Type := Nat × Bool × Option Nat × Option BankId

theorem carsOn_eq_countP (b : BankId) (s : State) : carsOn b s = (roll s).1.countP fun i => i.2.2.2 == some b := by
  simp [carsOn, roll, List.countP_eq_length_filter, List.filter_map, Function.comp_def, Car.identity]

theorem carsOn_congr (h : (roll t).1 = (roll s).1) (b : BankId) : carsOn b t = carsOn b s := by
  rw [carsOn_eq_countP, carsOn_eq_countP, h]

theorem carNumbers_eq (s : State) : carNumbers s = (roll s).1.map (·.1) := by
  simp [carNumbers, roll, Function.comp_def, Car.identity]

theorem identity_mem_roll {c : Car} (h : c ∈ s.entry.table) : c.identity ∈ (roll s).1 := List.mem_map_of_mem h

/-- Where keys are distinct, leaving out one key leaves out one entry. -/
theorem perm_cons_filter_key {α β : Type} [DecidableEq β] (key : α → β) {l : List α} (h : (l.map key).Nodup) {i : α} (hi : i ∈ l) :
    l.Perm (i :: l.filter fun j => key j != key i) := by
  induction l with
  | nil => cases hi
  | cons x rest ih =>
    obtain ⟨hx, hrest⟩ := List.nodup_cons.mp (h : (key x :: rest.map key).Nodup)
    obtain rfl | hi := List.mem_cons.mp hi
    · have hkept : (rest.filter fun j => key j != key i) = rest := by
        refine List.filter_eq_self.mpr fun j hj => bne_iff_ne.mpr fun he => hx ?_
        exact he ▸ List.mem_map_of_mem hj
      simp [hkept]
    · have hne : key x ≠ key i := fun he => hx (he ▸ List.mem_map_of_mem hi)
      have hkept : ((x :: rest).filter fun j => key j != key i) = x :: rest.filter fun j => key j != key i :=
        List.filter_cons_of_pos (bne_iff_ne.mpr hne)
      rw [hkept]
      exact ((ih hrest hi).cons x).trans (.swap i x _)

/-! ## The law of the books -/

/-- What lets the cars' part of the law last within a step: the phantom car carries no bank (R164), no two cars share a number (R75),
and there is room for the cars that may yet join. An event takes at most two requests (R173) and each adds at most one car, so two
more than the table's own limit are never exceeded. -/
structure Listed (room : Nat) (list : List RolledCar) : Prop where
  unbanked : ∀ i ∈ list, i.2.1 = true → i.2.2.2 = none
  distinct : (list.map (·.1)).Nodup
  space : list.length + room ≤ maxCars + 2

theorem Listed.sublist {list rest : List RolledCar} (h : Listed room list) (hs : rest.Sublist list) : Listed room rest where
  unbanked i hi := h.unbanked i (hs.subset hi)
  distinct := h.distinct.sublist (hs.map _)
  space := (Nat.add_le_add_right hs.length_le room).trans h.space

/-- A car with a free number joins. -/
theorem Listed.join {list : List RolledCar} {i : RolledCar} (h : Listed (room + 1) list) (hfree : i.1 ∉ list.map (·.1))
    (hbank : i.2.1 = true → i.2.2.2 = none) : Listed room (list ++ [i]) where
  unbanked := List.forall_mem_append.mpr ⟨h.unbanked, by simpa using hbank⟩
  distinct := by
    rw [List.map_append]
    refine List.Nodup.append h.distinct (List.nodup_singleton _) ?_
    simpa using hfree
  space := by
    have hspace := h.space
    rw [List.length_append, List.length_singleton]
    omega

theorem Listed.less_room {list : List RolledCar} (h : Listed (room + 1) list) : Listed room list :=
  { h with space := Nat.le_of_succ_le h.space }

/-- The law of the journal, in the form in which every operation keeps it. -/
structure Books (room : Nat) (s : State) : Prop where
  oneActive : OneActive s
  balance : ∀ b : BankId, (bankAt b s).Balances (carsOn b s)
  listed : Listed room (roll s).1

theorem Books.of_laws (hfits : TableFits s) (hj : JournalLaw s) : Books 2 s := by
  obtain ⟨hactive, hcounts, huncarried, hphantoms⟩ := hj
  obtain ⟨htable, hnumbers⟩ := hfits
  refine ⟨hactive, fun b => ⟨hcounts b, huncarried b⟩, ?_, carNumbers_eq s ▸ hnumbers, ?_⟩
  · simpa [roll, Car.identity] using hphantoms
  · simpa [roll] using htable

theorem Books.journalLaw (h : Books room s) : JournalLaw s := by
  refine ⟨h.oneActive, fun b => (h.balance b).counts, fun b => (h.balance b).uncarried, ?_⟩
  simpa [roll, Car.identity] using h.listed.unbanked

/-- The books are a law of the cars on the roll and of the journal alone. -/
theorem Books.of_cars (h : Books room s) (hr : (roll t).1 = (roll s).1) (hj : t.journal = s.journal) : Books room t where
  oneActive := h.oneActive.congr hj
  balance b := by
    rw [bankAt_congr hj, carsOn_congr hr]
    exact h.balance b
  listed := hr ▸ h.listed

theorem Books.of_roll (h : Books room s) (hr : roll t = roll s) (hj : t.journal = s.journal) : Books room t :=
  h.of_cars (congrArg Prod.fst hr) hj

theorem Books.less_room (h : Books (room + 1) s) : Books room s := { h with listed := h.listed.less_room }

/-- One bank changes, and the cars that carry it with it. -/
theorem Books.of_bank {f : Bank → Bank} (h : Books room s) (hj : t.journal = (modifyBank b f s).journal)
    (hactive : (f (bankAt b s)).state = .active ↔ (bankAt b s).state = .active)
    (hbalance : (f (bankAt b s)).Balances (carsOn b t)) (hother : ∀ c, c ≠ b → carsOn c t = carsOn c s)
    (hlisted : Listed left (roll t).1) : Books left t where
  oneActive := (h.oneActive.modifyBank hactive).congr hj
  balance c := by
    rw [bankAt_congr hj, bankAt_modifyBank]
    split
    next he => exact he ▸ hbalance
    next hne =>
      rw [hother c hne]
      exact h.balance c
  listed := hlisted

/-- One bank changes and the cars stay. -/
theorem Books.modified {f : Bank → Bank} (h : Books room s) (hr : (roll t).1 = (roll s).1)
    (hj : t.journal = (modifyBank b f s).journal)
    (hactive : (f (bankAt b s)).state = .active ↔ (bankAt b s).state = .active)
    (hbalance : (f (bankAt b s)).Balances (carsOn b s)) : Books room t :=
  h.of_bank hj hactive (carsOn_congr hr b ▸ hbalance) (fun c _ => carsOn_congr hr c) (hr ▸ h.listed)

end Sys2Proof.Machine
end

section
/-! The books under what writes to them: removals, tickets voided and lost, new cars, and the requests on the banks. -/

namespace Sys2Proof.Machine

variable {s t : State} {b : BankId} {room : Nat}

/-! ## Removals (R96, R157) -/

/-- What follows the car's own departure leaves the roll alone. -/
theorem roll_withoutCar (c : Car) (kind : RemovalKind) (s : State) :
    (roll (withoutCar c s)).1 = (roll (removeCar c kind s)).1 := by
  rw [removeCar_eq]
  split <;> simp

theorem withoutCar_journal (c : Car) (s : State) : (withoutCar c s).journal = s.journal := by simp [withoutCar]

theorem removeCar_journal_of_unrecorded {c : Car} (kind : RemovalKind) (h : c.phantom = true ∨ c.bank = none) :
    (removeCar c kind s).journal = s.journal := by
  rw [removeCar_of_unrecorded kind h, closeIfEmpty_journal, evaluateRun_journal, withoutCar_journal]

/-- A recorded car's bank takes its record, and is SEALED where it was the last car of a DRAINING bank. -/
theorem removeCar_journal_of_recorded {c : Car} (kind : RemovalKind) (hphantom : c.phantom = false) (hbank : c.bank = some b) :
    ∃ r : JournalRecord, (removeCar c kind s).journal
      = (modifyBank b (fun k => (k.submitted r).drained (carsOn b (removeCar c kind s))) s).journal := by
  refine ⟨carRecord (withoutCar c s) c kind (classApplied (withoutCar c s) c), ?_⟩
  rw [← carsOn_congr (roll_withoutCar c kind s), removeCar_of_recorded kind hphantom hbank, closeIfEmpty_journal,
    evaluateRun_journal, sealIfDrained_journal, carsOn_congr (congrArg Prod.fst (roll_submit _ _ _)),
    modifyBank_journal_congr _ _ (submit_journal _ _ _), modifyBank_modifyBank]
  exact modifyBank_journal_congr _ _ (withoutCar_journal c s)

/-- A car of the table that leaves it takes its place on its bank with it. -/
theorem carsOn_removeCar {c : Car} (h : Books room s) (hc : c.identity ∈ (roll s).1) (kind : RemovalKind) (b : BankId) :
    carsOn b s = carsOn b (removeCar c kind s) + if c.bank = some b then 1 else 0 := by
  have hperm := perm_cons_filter_key (fun i : RolledCar => i.1) h.listed.distinct hc
  rw [carsOn_eq_countP, carsOn_eq_countP, roll_removeCar, hperm.countP_eq, List.countP_cons]
  simp [Car.identity]

theorem removeCar_books {c : Car} (kind : RemovalKind) (hc : c.identity ∈ (roll s).1) (h : Books room s) :
    Books room (removeCar c kind s) := by
  obtain ⟨hcars, -⟩ := removeCar_shrinks c kind s
  have hcarried (b : BankId) := carsOn_removeCar h hc kind b
  have hlisted : Listed room (roll (removeCar c kind s)).1 := h.listed.sublist hcars
  cases hbank : c.bank with
  | none =>
    have hsame (b : BankId) : carsOn b (removeCar c kind s) = carsOn b s := by simpa [hbank] using (hcarried b).symm
    have hj : (removeCar c kind s).journal = s.journal := removeCar_journal_of_unrecorded kind (.inr hbank)
    refine ⟨h.oneActive.congr hj, fun b => ?_, hlisted⟩
    rw [bankAt_congr hj, hsame]
    exact h.balance b
  | some b =>
    have hphantom : c.phantom = false := by
      refine Bool.eq_false_iff.mpr fun hp => ?_
      have hnone : c.bank = none := h.listed.unbanked _ hc hp
      simp [hbank] at hnone
    obtain ⟨r, hj⟩ := removeCar_journal_of_recorded (s := s) kind hphantom hbank
    have hone : carsOn b s = carsOn b (removeCar c kind s) + 1 := by simpa [hbank] using hcarried b
    have hbalance := h.balance b
    rw [hone] at hbalance
    obtain ⟨hstate, -⟩ := submitted_header r (bankAt b s)
    refine h.of_bank hj ?_ (hbalance.submitted r).drained (fun d hd => ?_) hlisted
    · rw [drained_active_iff, hstate]
    · simpa [hbank, Ne.symm hd] using (hcarried d).symm

/-! ## Tickets voided and lost (R151) -/

theorem submitTicket_journal (k : Ticket) (o : WashOutcome) (s : State) : (submitTicket k o s).journal
    = (modifyBank (activeBank s) (fun m => m.countVoid.submitted (ticketRecord k o)) s).journal := by
  unfold submitTicket
  rw [submit_journal, modifyBank_modifyBank]
  rfl

theorem submitTicket_books (k : Ticket) (o : WashOutcome) (h : Books room s) : Books room (submitTicket k o s) := by
  have ha := activeBank_active h.oneActive
  obtain ⟨hstate, -⟩ := submitted_header (ticketRecord k o) (bankAt (activeBank s) s).countVoid
  refine h.modified (congrArg Prod.fst (roll_submitTicket s k o)) (submitTicket_journal k o s) ?_
    ((h.balance _).countVoid _ ha)
  rw [hstate]
  rfl

/-! ## New cars (R76, R147, R164) -/

/-- While cars may join, the next car number is one that no car holds (R76). -/
theorem nextCarNumber_free (h : Books (room + 1) s) : nextCarNumber s ∉ (roll s).1.map (·.1) := by
  rw [← carNumbers_eq]
  refine nextFree_not_mem _ ?_
  have hspace := h.listed.space
  rw [carNumbers_eq, List.length_map]
  simp only [maxCars] at hspace
  omega

theorem buildRecord_journal (n : Nat) (sale : Sale) (s : State) :
    (buildRecord n sale s).journal = (modifyBank (activeBank s) Bank.countAdmission s).journal := by
  have hsettled : (settleWatched { s with entry.carCounter := stepOn 65535 n }).journal = s.journal := settleWatched_journal _
  have hactive {t : State} (h : t.journal = s.journal) : (modifyBank (activeBank t) Bank.countAdmission t).journal
      = (modifyBank (activeBank s) Bank.countAdmission s).journal := by
    rw [activeBank, h]
    exact modifyBank_journal_congr _ _ h
  unfold buildRecord
  exact hactive hsettled

/-- The record of an admission joins the roll under the ACTIVE bank, which counts it (R77, R88, R147). -/
theorem buildRecord_books (sale : Sale) (h : Books (room + 1) s) : Books room (buildRecord (nextCarNumber s) sale s) := by
  have ha := activeBank_active h.oneActive
  have hroll : (roll (buildRecord (nextCarNumber s) sale s)).1
      = (roll s).1 ++ [(nextCarNumber s, false, sale.ticket, some (activeBank s))] := congrArg Prod.fst (roll_buildRecord _ sale s)
  have hcarried (c : BankId) : carsOn c (buildRecord (nextCarNumber s) sale s)
      = carsOn c s + if activeBank s = c then 1 else 0 := by
    rw [carsOn_eq_countP, carsOn_eq_countP, hroll, List.countP_append]
    simp
  refine h.of_bank (buildRecord_journal _ sale s) Iff.rfl ?_ (fun c hc => by simp [hcarried, Ne.symm hc])
    (hroll ▸ h.listed.join (nextCarNumber_free h) nofun)
  rw [hcarried, if_pos rfl]
  exact (h.balance _).countAdmission ha

/-- The phantom car joins the roll under no bank (R164). -/
theorem Books.join_phantom (h : Books (room + 1) s) (hr : (roll t).1 = (roll s).1 ++ [(nextCarNumber s, true, none, none)])
    (hj : t.journal = s.journal) : Books room t where
  oneActive := h.oneActive.congr hj
  balance b := by
    have hsame : carsOn b t = carsOn b s := by
      rw [carsOn_eq_countP, carsOn_eq_countP, hr, List.countP_append]
      simp
    rw [bankAt_congr hj, hsame]
    exact h.balance b
  listed := hr ▸ h.listed.join (nextCarNumber_free h) fun _ => rfl

theorem beginRehearsal_books (profile plan : Nat) (traced : Option Nat) (samples : List Sample) (h : Books (room + 1) s) :
    Books room (beginRehearsal profile plan traced samples s) := by
  refine h.join_phantom ?_ (beginRehearsal_journal s profile plan traced samples)
  unfold beginRehearsal
  simp only [roll_evaluateRun, roll_recomputeClass, roll_changeTunnel, roll_createPhantom]
  rfl

theorem rehearseRequest_books (l : Fin 4) (profile plan : Nat) (traced : Option Nat) (h : Books (room + 1) s) :
    Books room (rehearseRequest l profile plan traced s).1 := by
  unfold rehearseRequest
  split
  · exact h.less_room
  · exact h.less_room
  next samples _ _ =>
    dsimp only
    exact beginRehearsal_books profile plan traced samples h

/-! ## The requests on the banks (R155 to R159) -/

theorem closeBank_journal (b : BankId) (s : State) : (closeBank b s).journal
    = (modifyBank (otherBank b) (fun _ => zeroedBank .active) (modifyBank b (fun k => { k with state := closedState b s }) s)).journal := by
  unfold closeBank
  dsimp only
  split <;> rfl

theorem bank_eq_or_other (c b : BankId) : c = b ∨ c = otherBank b := by cases b <;> cases c <;> simp [otherBank]

theorem bankAt_closeBank (b : BankId) (s : State) :
    bankAt b (closeBank b s) = { bankAt b s with state := closedState b s } ∧
      bankAt (otherBank b) (closeBank b s) = zeroedBank .active := by
  have hj := closeBank_journal b s
  refine ⟨(bankAt_congr hj b).trans ?_, (bankAt_congr hj _).trans (bankAt_modifyBank_same _ _ _)⟩
  cases b <;> rfl

/-- A bank that is closed is ACTIVE no longer. -/
theorem closedState_ne_active (b : BankId) (s : State) : closedState b s ≠ .active := by
  unfold closedState
  split <;> simp

/-- The closed bank keeps its cars and its counts, and the other, EMPTY until now, has neither. -/
theorem closeBank_books (ha : (bankAt b s).state = .active) (hempty : (bankAt (otherBank b) s).state = .empty)
    (h : Books room s) : Books room (closeBank b s) := by
  obtain ⟨hclosed, hother⟩ := bankAt_closeBank b s
  have hroll : roll (closeBank b s) = roll s := by
    unfold closeBank
    dsimp only
    split <;> simp
  have hcars (c : BankId) : carsOn c (closeBank b s) = carsOn c s := carsOn_congr (congrArg Prod.fst hroll) c
  have hnone : carsOn (otherBank b) s = 0 := (h.balance _).uncarried (.inr hempty)
  refine ⟨?_, fun c => ?_, hroll ▸ h.listed⟩
  · have hleft : (bankAt b (closeBank b s)).state ≠ .active := hclosed ▸ closedState_ne_active b s
    have hstarted : (bankAt (otherBank b) (closeBank b s)).state = .active := hother ▸ rfl
    cases b with
    | bankA => exact .inr ⟨hstarted, hleft⟩
    | bankB => exact .inl ⟨hstarted, hleft⟩
  · rw [hcars]
    obtain rfl | rfl := bank_eq_or_other c b
    · rw [hclosed]
      refine ⟨fun _ => (h.balance c).counts (by simp [ha]), ?_⟩
      unfold closedState
      split
      next hzero => exact fun _ => hzero
      · simp
    · rw [hother, hnone]
      exact ⟨fun _ => rfl, fun _ => rfl⟩

theorem closeoutRequest_books (l : Fin 4) (h : Books room s) : Books room (closeoutRequest l s).1 := by
  unfold closeoutRequest
  split
  · exact h
  next ht =>
    have hempty : (bankAt (otherBank (activeBank s)) s).state = .empty := by
      simpa using (firstFailed_eq_none _).mp ht ((bankAt (otherBank (activeBank s)) s).state != .empty, .bankBusy) (by simp)
    exact closeBank_books (activeBank_active h.oneActive) hempty h

/-- READ_JOURNAL and RELEASE_BANK get past their tests on a SEALED bank alone. -/
theorem sealed_of_bankTests {l : Fin 4} {code : Nat} (ht : bankTests l code s = none) (hb : bankOf code = some b) :
    (bankAt b s).state = .sealed := by
  simpa [hb] using (firstFailed_eq_none _).mp ht ((bankOf code).any fun b => (bankAt b s).state != .sealed, .state) (by simp)

theorem readJournalRequest_books (l : Fin 4) (code : Nat) (first : Option Nat) (h : Books room s) :
    Books room (readJournalRequest l code first s).1 := by
  unfold readJournalRequest
  split
  · exact h
  · exact h
  next b _ _ =>
    split
    · exact h
    · exact h.modified (congrArg Prod.fst (roll_modifyBank s b _)) rfl Iff.rfl ((h.balance b).of_header rfl rfl)

theorem releaseBankRequest_books (l : Fin 4) (code : Nat) (h : Books room s) : Books room (releaseBankRequest l code s).1 := by
  unfold releaseBankRequest
  split
  · exact h
  · exact h
  next b ht hb =>
    have hsealed := sealed_of_bankTests ht hb
    have hnone : carsOn b s = 0 := (h.balance b).uncarried (.inl hsealed)
    refine h.modified (b := b) (f := fun _ => zeroedBank .empty) (congrArg Prod.fst (roll_modifyBank s b _)) rfl ?_ ?_
    · simp [hsealed, zeroedBank]
    · rw [hnone]
      exact ⟨fun _ => rfl, fun _ => rfl⟩

end Sys2Proof.Machine
end

section
/-! The books under causes, pitches and line events, and under the removal of every car (R140, R160). -/

namespace Sys2Proof.Machine

variable {s t : State} {room : Nat}

/-! ## Causes (R130, R131) -/

theorem dropPhantom_books (h : Books room s) : Books room (dropPhantom s) := by
  unfold dropPhantom
  split
  · exact h
  next hc => exact removeCar_books _ (identity_mem_roll (List.mem_of_find?_eq_some hc)) h

theorem firstCause_books (c : Cause) (h : Books room s) : Books room (firstCause c s) := by
  unfold firstCause
  dsimp only
  refine Books.of_roll (dropPhantom_books ?_) (roll_evaluateRun _) (evaluateRun_journal _)
  have habandoned : Books room (abandonRehearsal (newHalt c s).number s) := h.of_roll (by simp) (by simp)
  refine habandoned.of_roll ?_ ?_
  · simp only [roll_forget, roll_cancelCall, roll_withdrawAll, roll_markHalt, roll_changeTunnel]
    rfl
  · simp only [forget_journal, cancelCall_journal, withdrawAll_journal, markHalt_journal, changeTunnel_journal]

theorem takeCause_books (c : Cause) (h : Books room s) : Books room (takeCause c s) := by
  unfold takeCause
  split
  · exact h.of_roll (roll_furtherCause s c) rfl
  · exact h.of_roll (by simp) rfl
  all_goals exact firstCause_books c h

theorem takeCauses_books (h : Books room s) : Books room (takeCauses s) :=
  List.foldlRecOn (motive := Books room) s.raised _ (h.of_roll rfl rfl) fun _ ht c _ => takeCause_books c ht

/-! ## Pitches (R3, R168) -/

theorem rehearsalPitch_books (p : Pos) (h : Books room s) : Books room (rehearsalPitch p s) := by
  unfold rehearsalPitch
  split
  · split
    · exact h
    next c hc =>
      have hremoved := removeCar_books .cleared (identity_mem_roll (List.mem_of_find?_eq_some hc)) h
      exact hremoved.of_roll (by simp) (by simp)
  · exact h

theorem controlPitch_books (p : Pos) (h : Books room s) : Books room (controlPitch p s) :=
  rehearsalPitch_books p (h.of_roll (roll_missingPitch _ p) (missingPitch_journal _ p))

theorem blockActs_books (e : PitchEvent) (x : State × Bool) (a : PitchBlock) (h : Books room x.1) :
    Books room (blockActs e x a).1 := by
  cases a with
  | station => exact h.of_roll (roll_stationPitch x.1 e.position e.gauges) (stationPitch_journal x.1 e.position e.gauges)
  | arch a =>
    exact h.of_roll (roll_archPitch x.1 a e.position e.settle (e.before.get a))
      (archPitch_journal x.1 a e.position e.settle (e.before.get a))
  | entryExit => exact controlPitch_books e.position h
  | supervisor => exact takeCauses_books h

theorem forwardPitch_books (g : GaugeCodes) (order : List PitchBlock) (h : Books room s) :
    Books room (forwardPitch g order s) := by
  refine Books.of_roll (takeCauses_books ?_) (roll_arbitrateWith _ _) (arbitrateWith_journal _ _)
  exact List.foldlRecOn (motive := fun x : State × Bool => Books room x.1) _ _ (h.of_roll rfl rfl)
    fun x hx a _ => blockActs_books _ x a hx

theorem encoderChange_books (phase : Fin 4) (g : GaugeCodes) (order : List PitchBlock) (h : Books room s) :
    Books room (encoderChange phase g order s) := by
  have hphase : Books room { s with tracker.phase := phase } := h.of_roll rfl rfl
  unfold encoderChange
  dsimp only
  split
  · exact hphase
  · exact forwardPitch_books g order hphase
  · exact takeCause_books _ hphase
  · unfold reversePitch
    dsimp only
    split
    · exact takeCause_books _ (hphase.of_roll rfl rfl)
    · exact hphase.of_roll rfl rfl

/-! ## Line events (R10, R48, R87, R93, R128) -/

/-- The tag that a matched exit under a halt adds leaves the car on the roll the car it was (R93). -/
theorem exitFront_books (h : Books room s) : Books room (exitFront s) := by
  unfold exitFront
  split
  next c hc =>
    obtain ⟨hold, -⟩ := Option.filter_eq_some_iff.mp hc
    have hmem : c.identity ∈ (roll s).1 := identity_mem_roll (List.mem_of_mem_head? hold)
    unfold exitMatched
    dsimp only
    refine Books.of_roll (removeCar_books .exit ?_ h) (roll_arbitrate _) (arbitrate_journal _)
    split
    · rwa [identity_addTag]
    · exact hmem
  · unfold exitStray
    split
    · exact h.of_roll rfl rfl
    · exact takeCause_books _ h

theorem exitClosing_books (h : Books room s) : Books room (exitClosing s) := by
  have hclosed : Books room { s with entry.exitClosed := true } := h.of_roll rfl rfl
  unfold exitClosing
  dsimp only
  split
  · exact h.of_roll rfl rfl
  · exact (exitFront_books hclosed).of_roll rfl rfl

theorem holdExpires_books (n : Nat) (h : Books room s) : Books room (holdExpires n s) := by
  have hdropped : (roll (dropTicket n s)).1 = (roll s).1 := by rw [roll_dropTicket]
  refine h.of_cars ?_ (holdExpires_journal s n)
  unfold holdExpires
  split
  · rfl
  · split
    · exact hdropped
    · rfl

theorem returnExpires_books (a : Fin 12) (h : Books room s) : Books room (returnExpires a s) := by
  have hjammed : Books room (modifyArch a (fun x => { x with phase := .jammed, timer := none }) s) := h.of_roll rfl rfl
  unfold returnExpires jam
  split
  · exact (takeCause_books (.archJam a) hjammed).of_roll (by simp) (by simp)
  · exact h

theorem stallExpires_books (h : Books room s) : Books room (stallExpires s) := by
  unfold stallExpires
  split
  · exact takeCause_books _ (h.of_roll rfl rfl)
  · exact h

theorem estopChange_books (asserted : Bool) (h : Books room s) : Books room (estopChange asserted s) := by
  unfold estopChange
  dsimp only
  split
  · exact takeCause_books _ (h.of_roll rfl rfl)
  · exact h.of_roll rfl rfl

theorem handCloseFollow_books (n : Nat) (close : Bool) (h : Books room s) : Books room (handCloseFollow n close s) := by
  unfold handCloseFollow
  split
  · exact takeCause_books _ (h.of_roll (roll_tagCar s n _) rfl)
  · exact h

theorem admitTicket_books (t : Ticket) (h : Books (room + 1) s) : Books room (admitTicket t s) := by
  have hbuilt : Books room (dropTicket t.number (buildRecord (nextCarNumber s) (saleOfTicket t) s)) :=
    (buildRecord_books (saleOfTicket t) h).of_cars (by rw [roll_dropTicket]) rfl
  unfold admitTicket
  dsimp only
  refine Books.of_roll (handCloseFollow_books _ _ ?_) ((roll_arbitrate _).trans (roll_evaluateRun _)) (by simp)
  split <;> exact hbuilt.of_roll (by simp) (by simp)

theorem admitUnbidden_books (h : Books (room + 1) s) : Books room (admitUnbidden s) := by
  unfold admitUnbidden
  dsimp only
  refine Books.of_roll (handCloseFollow_books _ _ ?_) ((roll_arbitrate _).trans (roll_evaluateRun _)) (by simp)
  exact (buildRecord_books (saleUnbidden s) h).of_roll (by simp) rfl

theorem admitOpen_books (h : Books (room + 1) s) : Books room (admitOpen s) := by
  unfold admitOpen
  split
  · split
    · exact admitTicket_books _ h
    · exact admitUnbidden_books h
  · split
    · split
      · exact admitTicket_books _ h
      · exact admitUnbidden_books h
    · exact admitUnbidden_books h

theorem entryFront_books (h : Books (room + 1) s) : Books room (entryFront s) := by
  have hless := h.less_room
  unfold entryFront
  split
  · exact hless.of_roll rfl rfl
  · exact hless.of_roll rfl rfl
  · exact takeCause_books _ hless
  · exact hless.of_roll rfl rfl
  · split
    · exact admitOpen_books h
    · exact takeCause_books _ hless
  · split
    · exact admitUnbidden_books h
    · exact takeCause_books _ hless

theorem entryClosing_books (h : Books (room + 1) s) : Books room (entryClosing s) := by
  have hclosed : Books (room + 1) { s with entry.entryClosed := true } := h.of_roll rfl rfl
  unfold entryClosing
  dsimp only
  split
  · exact h.less_room.of_roll rfl rfl
  · exact (entryFront_books hclosed).of_roll rfl rfl

/-! ## Every car at once (R140, R160) -/

theorem findCar_number {n : Nat} {c : Car} (hc : findCar n s = some c) : c.number = n := by simpa using List.find?_some hc

theorem findCar_of_carried {n : Nat} (hn : n ∈ (roll s).1.map (·.1)) :
    ∃ c, findCar n s = some c ∧ c.identity ∈ (roll s).1 := by
  rw [← carNumbers_eq] at hn
  obtain ⟨d, hd, hnumber⟩ := List.mem_map.mp hn
  obtain ⟨c, hc⟩ : ∃ c, findCar n s = some c :=
    Option.isSome_iff_exists.mp (List.find?_isSome.mpr ⟨d, hd, beq_iff_eq.mpr hnumber⟩)
  exact ⟨c, hc, identity_mem_roll (List.mem_of_find?_eq_some hc)⟩

/-- The removal of a car as it stands by then, which `removeAll` makes of every car. -/
def removeNumbered (kind : RemovalKind) (t : State) (c : Car) : State := removeCar ((findCar c.number t).getD c) kind t

theorem roll_removeNumbered (kind : RemovalKind) (t : State) (c : Car) :
    (roll (removeNumbered kind t c)).1 = (roll t).1.filter fun i => i.1 != c.number := by
  have hnumber : ((findCar c.number t).getD c).number = c.number := by
    cases hc : findCar c.number t with
    | none => rfl
    | some d => exact findCar_number hc
  rw [removeNumbered, roll_removeCar, hnumber]

/-- Removing the cars of a list leaves the cars of other numbers. -/
theorem roll_removals (kind : RemovalKind) (l : List Car) (t : State) :
    (roll (l.foldl (removeNumbered kind) t)).1 = (roll t).1.filter fun i => decide (i.1 ∉ l.map (·.number)) := by
  induction l generalizing t with
  | nil => simp
  | cons c rest ih =>
    rw [List.foldl_cons, ih, roll_removeNumbered, List.filter_filter]
    refine List.filter_congr fun i _ => Bool.eq_iff_iff.mpr ?_
    simp [and_comm]

/-- Removing cars one by one keeps the books, as each stands in the table until its turn comes. -/
theorem removals_books (kind : RemovalKind) {l : List Car} (hl : (l.map (·.number)).Nodup)
    (hmem : ∀ c ∈ l, c.number ∈ (roll t).1.map (·.1)) (h : Books room t) : Books room (l.foldl (removeNumbered kind) t) := by
  induction l generalizing t with
  | nil => exact h
  | cons c rest ih =>
    obtain ⟨hc, hrest⟩ : c.number ∉ rest.map (·.number) ∧ (rest.map (·.number)).Nodup := List.nodup_cons.mp hl
    obtain ⟨d, hd, hfound⟩ := findCar_of_carried (hmem c List.mem_cons_self)
    have hremoved : Books room (removeNumbered kind t c) := by
      rw [removeNumbered, hd]
      exact removeCar_books kind hfound h
    refine ih hrest (fun e he => ?_) hremoved
    obtain ⟨i, hi, hnumber⟩ := List.mem_map.mp (hmem e (List.mem_cons_of_mem c he))
    have hin : e.number ∈ rest.map (·.number) := List.mem_map_of_mem he
    have hne : i.1 ≠ c.number := fun heq => hc ((hnumber.symm.trans heq) ▸ hin)
    rw [roll_removeNumbered]
    exact List.mem_map.mpr ⟨i, List.mem_filter.mpr ⟨hi, bne_iff_ne.mpr hne⟩, hnumber⟩

theorem removeAll_books (kind : RemovalKind) (h : Books room s) : Books room (removeAll kind s) := by
  have hnumbers : s.entry.table.map (·.number) = (roll s).1.map (·.1) := carNumbers_eq s
  refine removals_books kind (hnumbers ▸ h.listed.distinct) (fun c hc => ?_) h
  rw [← hnumbers]
  exact List.mem_map_of_mem hc

theorem roll_removeAll (kind : RemovalKind) (s : State) : (roll (removeAll kind s)).1 = [] := by
  have hnumbers : s.entry.table.map (·.number) = (roll s).1.map (·.1) := carNumbers_eq s
  refine (roll_removals kind s.entry.table s).trans (List.filter_eq_nil_iff.mpr fun i hi => ?_)
  rw [hnumbers]
  simp only [decide_eq_true_eq, not_not]
  exact List.mem_map_of_mem hi

end Sys2Proof.Machine
end

section
/-! The books under every command: requests, frames and bytes, starts and the supply. -/

namespace Sys2Proof.Machine

variable {s : State} {room : Nat}

/-! ## Requests (R117, R129, R139, R140) -/

theorem quoteRequest_books (l : Fin 4) (plan : Nat) (extras : List Nat) (slot lane : Option Nat) (h : Books room s) :
    Books room (quoteRequest l plan extras slot lane s).1 := by
  refine h.of_cars ?_ (quoteRequest_journal s l plan extras slot lane)
  obtain hsame | ⟨-, hjoined⟩ := roll_quoteRequest l plan extras slot lane s
  · rw [hsame]
  · rw [hjoined]

theorem cancelRequest_books (l : Fin 4) (n : Nat) (h : Books room s) : Books room (cancelRequest l n s).1 := by
  refine h.of_cars ?_ (cancelRequest_journal s l n)
  have hdropped : (roll (dropTicket n s)).1 = (roll s).1 := by rw [roll_dropTicket]
  unfold cancelRequest
  split
  · rfl
  · exact hdropped

theorem voidTicket_books (k : Ticket) (h : Books room s) : Books room (voidTicket k s) := by
  have hdropped : Books room (dropTicket k.number s) := h.of_cars (by rw [roll_dropTicket]) rfl
  by_cases hs : k.state = .held
  · rw [voidTicket_of_held hs]
    exact hdropped.of_roll (by simp) (by simp)
  · rw [voidTicket_of_sold hs]
    exact (submitTicket_books k .voided hdropped).of_roll (by simp) (by simp)

theorem voidRequest_books (l : Fin 4) (n : Nat) (h : Books room s) : Books room (voidRequest l n s).1 := by
  unfold voidRequest
  split
  · exact h
  · exact h
  · exact voidTicket_books _ h

theorem haltRequest_books (l : Fin 4) (h : Books room s) : Books room (haltRequest l s).1 := by
  unfold haltRequest
  split
  · exact h
  · exact takeCause_books _ h

theorem pullCarRequest_books (l : Fin 4) (n : Nat) (h : Books room s) : Books room (pullCarRequest l n s).1 := by
  unfold pullCarRequest
  split
  · exact h
  · exact h
  next c _ hc =>
    have hremoved := removeCar_books .pulled (identity_mem_roll (List.mem_of_find?_eq_some hc)) h
    exact hremoved.of_roll (by simp) (by simp)

theorem clearTunnel_books (h : Books room s) : Books room (clearTunnel s) := by
  have hcleared : Books room (allArches.foldl clearArch (removeAll .cleared s)) :=
    (removeAll_books .cleared h).of_roll (roll_foldl clearArch roll_clearArch allArches _)
      (foldl_journal clearArch clearArch_journal allArches _)
  unfold clearTunnel
  dsimp only
  split
  · exact hcleared.of_roll (by simp) (by simp)
  · exact hcleared.of_roll (by simp) (by simp)

theorem clearTunnelRequest_books (l : Fin 4) (h : Books room s) : Books room (clearTunnelRequest l s).1 := by
  unfold clearTunnelRequest
  split
  · exact h
  · dsimp only
    exact clearTunnel_books h

/-- A request keeps the books, and adds at most one car to them (R164). -/
theorem runRequest_books (i : Instr) (h : Books (room + 1) s) : Books room (runRequest i s).1 := by
  have hless := h.less_room
  cases i with
  | quote l plan extras slot lane => exact quoteRequest_books l plan extras slot lane hless
  | confirm l n tender => exact hless.of_roll (roll_confirmRequest l n tender s) (confirmRequest_journal s l n tender)
  | cancel l n => exact cancelRequest_books l n hless
  | voidTicket l n => exact voidRequest_books l n hless
  | requeue l n => exact hless.of_roll (roll_requeueRequest l n s) (requeueRequest_journal s l n)
  | halt l => exact haltRequest_books l hless
  | pullCar l n => exact pullCarRequest_books l n hless
  | openTunnel l => exact hless.of_roll (roll_openTunnelRequest l s) (openTunnelRequest_journal s l)
  | closeTunnel l => exact hless.of_roll (roll_closeTunnelRequest l s) (closeTunnelRequest_journal s l)
  | restart l => exact hless.of_roll (roll_restartRequest l s) (restartRequest_journal s l)
  | clearTunnel l => exact clearTunnelRequest_books l hless
  | setArchService l n setting =>
    exact hless.of_roll (roll_setArchServiceRequest l n setting s) (setArchServiceRequest_journal s l n setting)
  | clearJam l n => exact hless.of_roll (roll_clearJamRequest l n s) (clearJamRequest_journal s l n)
  | editPlan l n p => exact hless.of_roll (roll_editPlanRequest l n p s) (editPlanRequest_journal s l n p)
  | editExtra l n e => exact hless.of_roll (roll_editExtraRequest l n e s) (editExtraRequest_journal s l n e)
  | editDiscount l n r => exact hless.of_roll (roll_editDiscountRequest l n r s) (editDiscountRequest_journal s l n r)
  | editService l n name => exact hless.of_roll (roll_editServiceRequest l n name s) (editServiceRequest_journal s l n name)
  | lockRange l first last =>
    exact hless.of_roll (roll_lockRangeRequest l first last s) (lockRangeRequest_journal s l first last)
  | setArch l n record => exact hless.of_roll (roll_setArchRequest l n record s) (setArchRequest_journal s l n record)
  | setGauge l gauge first values =>
    exact hless.of_roll (roll_setGaugeRequest l gauge first values s) (setGaugeRequest_journal s l gauge first values)
  | setSite l p => exact hless.of_roll (roll_setSiteRequest l p s) (setSiteRequest_journal s l p)
  | setTestProfile l profile length first samples =>
    exact hless.of_roll (roll_setTestProfileRequest l profile length first samples s)
      (setTestProfileRequest_journal s l profile length first samples)
  | setAccess l target e => exact hless.of_roll (roll_setAccessRequest l target e s) (setAccessRequest_journal s l target e)
  | saveStore l => exact hless.of_roll (roll_saveStoreRequest l s) (saveStoreRequest_journal s l)
  | closeout l => exact closeoutRequest_books l hless
  | readJournal l code first => exact readJournalRequest_books l code first hless
  | releaseBank l code => exact releaseBankRequest_books l code hless
  | rehearse l profile plan traced => exact rehearseRequest_books l profile plan traced h
  | _ => exact hless.of_roll rfl rfl

/-! ## Frames and bytes (R171 to R176): at most two requests in one event -/

theorem flush_books (h : Books room s) : Books room (flush s) := h.of_roll (roll_flush s) (flush_journal s)

theorem answer_books (l : Fin 4) (kind : Byte) (x : State × Reply) (h : Books room x.1) : Books room (answer l kind x) :=
  h.of_roll (roll_answer l kind x) (answer_journal l kind x)

theorem modifyLink_books (l : Fin 4) (f : Link → Link) (h : Books room s) : Books room (modifyLink l f s) := h.of_roll rfl rfl

theorem takeFrame_books (l : Fin 4) (f : Frame) (h : Books (room + 1) s) : Books room (takeFrame l f s) := by
  unfold takeFrame
  split
  · exact answer_books l _ _ h.less_room
  · exact answer_books l _ _ (runRequest_books _ h)

theorem takePending_books (l : Fin 4) (h : Books (room + 1) s) : Books room (takePending l s) := by
  unfold takePending
  split
  · exact takeFrame_books l _ (modifyLink_books l _ h)
  all_goals exact h.less_room

/-- A frame that arrives may find another to be taken before it, so two cars may join (R173). -/
theorem arrive_books (l : Fin 4) (f : Frame) {act : State → State} (hact : ∀ t, Books (room + 1) t → Books room (act t))
    (h : Books (room + 2) s) : Books room (arrive l f act s) := by
  have taken (t : State) (ht : Books (room + 1) t) : Books room (takeOrHold l f act t) := by
    unfold takeOrHold
    split
    · exact hact t ht
    · exact modifyLink_books l _ ht.less_room
  unfold arrive
  split
  · exact taken s h.less_room
  · split
    · exact modifyLink_books l _ h.less_room.less_room
    · exact taken _ (takePending_books l h)

theorem receive_books (l : Fin 4) (b : Byte) (h : Books (room + 2) s) : Books room (receive l b s) := by
  have hless : Books room s := h.less_room.less_room
  unfold receive
  split
  · split
    · exact modifyLink_books l _ hless
    · exact hless
  · split <;> exact modifyLink_books l _ hless
  · split <;> exact modifyLink_books l _ hless
  · split
    · exact arrive_books l _ (fun t ht => takeFrame_books l _ ht) (modifyLink_books l _ h)
    · exact modifyLink_books l _ hless
    · exact modifyLink_books l _ hless

theorem placeWaiting_books (l : Fin 4) (h : Books room s) : Books room (placeWaiting l s) := by
  unfold placeWaiting
  split
  · exact h
  · split
    · exact modifyLink_books l _ h
    · exact h

/-! ## Starts and the supply (R160, R190, R191) -/

theorem reset_books : Books 0 State.reset where
  oneActive := .inl ⟨rfl, nofun⟩
  balance b := by cases b <;> exact ⟨fun _ => rfl, fun _ => rfl⟩
  listed := ⟨nofun, List.nodup_nil, Nat.zero_le _⟩

/-- A start keeps the journal of a part that holds no car. -/
theorem start_books (lines : LineLevels) (hcars : (roll s).1 = []) (h : Books room s) : Books room (start lines s) := by
  obtain ⟨-, hjournal, -⟩ := loadImage_frame lines s
  have hblocks : Books room (startedBlocks lines s) := h.of_cars (by rw [roll_startedBlocks, hcars]) hjournal
  cases he : lines.estop with
  | false => exact start_of_released lines s he ▸ hblocks
  | true => exact start_of_asserted lines s he ▸ takeCause_books _ hblocks

/-- What a line reset finds in flight is recorded, and the table is left empty (R160). -/
theorem recordInFlight_books (verified : Bool) (h : Books room s) :
    Books room (recordInFlight verified s) ∧ (roll (recordInFlight verified s)).1 = [] := by
  have hremoved : Books room (removeAll .resetLost { s with links := Vector.replicate 4 restingLink, raised := [], outbox := [] }) :=
    removeAll_books .resetLost (h.of_roll rfl rfl)
  have hlost (t : State) (ht : Books room t) : Books room (loseTickets t) :=
    List.foldlRecOn (motive := Books room) _ _ ht fun _ hu k _ => submitTicket_books k .resetLost hu
  have hroll (t : State) : roll (loseTickets t) = roll t := roll_foldl _ (fun u k => roll_submitTicket u k .resetLost) _ t
  have hsent (t : State) (ht : Books room t) : Books room (sendJournalNotices t) := flush_books (ht.of_roll rfl rfl)
  have hrollsent (t : State) : roll (sendJournalNotices t) = roll t := roll_flush _
  refine ⟨(hsent _ (hlost _ hremoved)).of_roll rfl rfl, ?_⟩
  refine (congrArg Prod.fst ((hrollsent _).trans (hroll _))).trans (roll_removeAll .resetLost _)

theorem resetLine_books (lines : LineLevels) (verified : Bool) (h : Books room s) : Books room (resetLine lines verified s) := by
  obtain ⟨hrecorded, hcars⟩ := recordInFlight_books verified h
  exact start_books lines hcars hrecorded

/-- A part without supply holds no car, so a start finds none, whether it has lost the supply just now or before (R190). -/
theorem powerOn_books (lines : LineLevels) (verified : Bool) (hempty : s.powered = false → (roll s).1 = []) (h : Books 0 s) :
    Books 0 (powerOn lines verified s) := by
  unfold powerOn
  split
  · exact start_books lines rfl (reset_books.of_roll rfl rfl)
  next hp => exact start_books lines (hempty (Bool.eq_false_iff.mpr hp)) h

/-! ## Every command -/

/-- Every next state of a command meets the law of the books. -/
theorem event_books (f : State → State) (h : Books room s) (hf : Books room (f s)) : LeadsTo (Books room) (event f s) := by
  intro t ht
  unfold event at ht
  split at ht
  · obtain rfl := Host.Outcome.next.inj ht
    exact (flush_books (takeCauses_books hf)).of_roll rfl rfl
  · obtain rfl := Host.Outcome.next.inj ht
    exact h

theorem exec_books (i : Instr) (hempty : s.powered = false → (roll s).1 = []) (h : Books 2 s) : LeadsTo (Books 0) (exec i s) := by
  have h1 : Books 1 s := h.less_room
  have h0 : Books 0 s := h1.less_room
  have ended {f : State → State} (hf : Books 0 (f s)) : LeadsTo (Books 0) (event f s) := event_books f h0 hf
  have kept {f : State → State} (hr : roll (f s) = roll s) (hj : (f s).journal = s.journal) : LeadsTo (Books 0) (event f s) :=
    ended (h0.of_roll hr hj)
  cases hl : requestLink i with
  | some l =>
    by_cases hk : ∃ kind body, i = .unknownKindRequest l kind body
    · obtain ⟨kind, body, rfl⟩ := hk
      exact ended (arrive_books l _ (fun t ht => takeFrame_books l _ ht) h)
    · rw [exec_request i l s hl fun kind body hi => hk ⟨kind, body, hi⟩]
      exact ended (arrive_books l _ (fun t ht => answer_books l _ _ (runRequest_books i ht)) h)
  | none =>
    cases i with
    | receiveByte l b => exact ended (receive_books l b h)
    | interByteTimeout l => exact ended (modifyLink_books l _ h0)
    | transmitByteSent l => exact ended (modifyLink_books l _ h0)
    | responsePlaced l => exact ended (placeWaiting_books l h0)
    | pendingFrameTaken l => exact ended (takePending_books l h1)
    | encoderLineChange phase g order => exact ended (encoderChange_books phase g order h0)
    | conveyorStall => exact ended (stallExpires_books h0)
    | loadCodeReceived a code => exact kept (roll_modifyArch s a _) rfl
    | homeSwitchChange a closed => exact kept (roll_modifyArch s a _) rfl
    | returnTimeout a => exact ended (returnExpires_books a h0)
    | entryTreadleClosing => exact ended (entryClosing_books h1)
    | treadleOpening t => exact kept (roll_treadleOpens t s) (treadleOpens_journal s t)
    | exitTreadleClosing => exact ended (exitClosing_books h0)
    | presenceLoopChange lane asserted => exact kept (roll_arbitrate _) (arbitrate_journal _)
    | callLapse => exact kept (roll_callLapses s) (callLapses_journal s)
    | graceExpiry => exact kept (roll_graceExpires s) (graceExpires_journal s)
    | holdExpiry n => exact ended (holdExpires_books n h0)
    | estopLineChange asserted => exact ended (estopChange_books asserted h0)
    | restartWindowExpiry => exact kept (roll_windowExpires s) (windowExpires_journal s)
    | saveStageBegin => exact kept rfl rfl
    | saveReport passed => exact kept (roll_saveReported passed s) (saveReported_journal s passed)
    | saveTimeout verified => exact kept (roll_saveExpires verified s) (saveExpires_journal s verified)
    | rollerPulseEnd => exact kept (roll_pulseEnds s) (pulseEnds_journal s)
    | powerOnReset lines verified =>
      intro t ht
      obtain rfl := Host.Outcome.next.inj ht
      exact (flush_books (takeCauses_books (powerOn_books lines verified hempty h0))).of_roll rfl rfl
    | lineReset lines verified => exact ended (resetLine_books lines verified h0)
    | lossOfSupply verified => exact ended (reset_books.of_roll rfl rfl)
    | _ => cases hl

theorem idle_books (h : Books room s) : Books room (idle s) := by
  unfold idle
  split
  · exact h.of_roll (roll_passUnit s) (passUnit_journal s)
  · exact h

/-- Settles O13: a step is 10 ms passing or one command, and each leaves every bank in step with its records and its cars. -/
theorem journalBooksBalance : Obligations.JournalBooksBalance := by
  intro s t hempty hfits hjournal hstep
  have h : Books 2 s := .of_laws hfits hjournal
  refine Books.journalLaw (room := 0) ?_
  unfold step at hstep
  split at hstep
  · obtain rfl := Host.Outcome.next.inj hstep
    exact idle_books h.less_room.less_room
  next i rest _ =>
    obtain ⟨-, -, -, -, hunpowered⟩ := hempty
    have hnone : s.powered = false → (roll s).1 = [] := fun hp => List.map_eq_nil_iff.mpr (hunpowered hp)
    have hrest : Books 2 { s with pending := rest } := h.of_roll rfl rfl
    exact exec_books i (s := { s with pending := rest }) hnone hrest t hstep

end Sys2Proof.Machine
end

section
/-! SUPPORT. What a rehearsal and the Supervisor report, and what the pace leaves of a car's record: one lemma for each operation on
cars, classes, arches and calls that leaves them alone. -/

namespace Sys2Proof.Machine

/-! ## The report -/

/-- What a run is told from: the trace ring, the Supervisor, the rehearsal record and the notices not yet offered. -/
def report (s : State) : List TraceEntry × Supervisor × Rehearsal × List Notice := (s.trace, s.supervisor, s.rehearsal, s.outbox)

theorem report_eq_iff (s t : State) : report t = report s ↔
    t.trace = s.trace ∧ t.supervisor = s.supervisor ∧ t.rehearsal = s.rehearsal ∧ t.outbox = s.outbox := by
  simp only [report, Prod.mk.injEq]

theorem report_foldl {α : Type} (f : State → α → State) (h : ∀ s a, report (f s a) = report s) (l : List α) (s : State) :
    report (l.foldl f s) = report s :=
  List.foldlRecOn (motive := fun t => report t = report s) l f rfl fun t ht a _ => (h t a).trans ht

variable (s : State)

@[simp] theorem report_modifyCar (n : Nat) (f : Car → Car) : report (modifyCar n f s) = report s := rfl
@[simp] theorem report_modifyArch (a : Fin 12) (f : Arch → Arch) : report (modifyArch a f s) = report s := rfl
@[simp] theorem report_tagCar (n : Nat) (t : Tag) : report (tagCar n t s) = report s := rfl
@[simp] theorem report_setStatus (n : Nat) (a : Fin 12) (st : ArchStatus) : report (setStatus n a st s) = report s := rfl
@[simp] theorem report_markHalt (n : Nat) : report (markHalt n s) = report s := rfl
@[simp] theorem report_forget : report (forget s) = report s := rfl
@[simp] theorem report_recomputeClass : report (recomputeClass s) = report s := rfl
@[simp] theorem report_startReturn (a : Fin 12) : report (startReturn a s) = report s := rfl
@[simp] theorem report_insertEvent (a : Fin 12) (e : ArchEvent) : report (insertEvent a e s) = report s := rfl

@[simp] theorem report_evaluateRun : report (evaluateRun s) = report s := by
  unfold evaluateRun
  repeat' split
  all_goals rfl

@[simp] theorem report_setClass (n k : Nat) : report (setClass n k s) = report s := by
  unfold setClass
  repeat' split
  all_goals rfl

@[simp] theorem report_computeClass (n : Nat) : report (computeClass n s) = report s := by
  unfold computeClass
  split
  · rfl
  · split <;> simp

@[simp] theorem report_joinDomain (n : Nat) : report (joinDomain n s) = report s := by
  unfold joinDomain
  repeat' split
  all_goals rfl

@[simp] theorem report_handStatus (a : Fin 12) (n : Nat) : report (handStatus a n s) = report s := by
  unfold handStatus statusSettled
  repeat' split
  all_goals rfl

@[simp] theorem report_insertEngages (n : Nat) : report (insertEngages n s) = report s := by
  unfold insertEngages
  split
  · rfl
  · split
    · rfl
    · exact report_foldl _ (fun t a => report_insertEvent t a _) _ s

@[simp] theorem report_insertReleases (n : Nat) : report (insertReleases n s) = report s := by
  unfold insertReleases
  split
  · rfl
  · split
    · rfl
    · exact report_foldl _ (fun t a => report_insertEvent t a _) _ s

@[simp] theorem report_purgeCar (n : Nat) : report (purgeCar n s) = report s := by
  refine report_foldl (purgeArch n) (fun t a => ?_) _ s
  unfold purgeArch
  dsimp only
  split <;> rfl

@[simp] theorem report_unwatch (n : Nat) : report (unwatch n s) = report s := by
  unfold unwatch
  repeat' split
  all_goals rfl

@[simp] theorem report_withdrawAll : report (withdrawAll s) = report s := by
  refine report_foldl withdraw (fun t a => ?_) _ s
  unfold withdraw
  dsimp only
  split
  · split <;> simp
  · rfl

theorem report_withoutCar (c : Car) : report (withoutCar c s) = report s := by
  rw [withoutCar, report_recomputeClass, report_unwatch, report_purgeCar]
  rfl

/-- The report stands as it was, but for notices that have been added to it. -/
structure ReportGrows (s t : State) : Prop where
  trace : t.trace = s.trace
  supervisor : t.supervisor = s.supervisor
  rehearsal : t.rehearsal = s.rehearsal
  outbox : ∃ notices, t.outbox = s.outbox ++ notices

variable {s} in
theorem ReportGrows.of_report {t : State} (h : report t = report s) : ReportGrows s t := by
  obtain ⟨htrace, hsupervisor, hrehearsal, houtbox⟩ := (report_eq_iff s t).mp h
  exact ⟨htrace, hsupervisor, hrehearsal, [], by rw [houtbox, List.append_nil]⟩

variable {s} in
theorem ReportGrows.trans {t u : State} (h : ReportGrows s t) (k : ReportGrows t u) : ReportGrows s u := by
  obtain ⟨first, hfirst⟩ := h.outbox
  obtain ⟨more, hmore⟩ := k.outbox
  exact ⟨k.trace.trans h.trace, k.supervisor.trans h.supervisor, k.rehearsal.trans h.rehearsal, first ++ more,
    by rw [hmore, hfirst, List.append_assoc]⟩

/-- A cancelled call adds at most its ticket notice to the report (R85). -/
theorem cancelCall_reportGrows : ReportGrows s (cancelCall s) := by
  unfold cancelCall
  split
  · exact .of_report rfl
  · dsimp only
    split
    · exact .of_report rfl
    · exact ⟨rfl, rfl, rfl, _, rfl⟩

/-! ## What the pace leaves of a car's record -/

/-- A car's record with what the pace writes into it blanked: class, applied class, domain, requirements and tags (R65 to R72). -/
def Car.standing (c : Car) : Car :=
  { c with cls := 0, applied := none, inDomain := false, requirements := Vector.replicate 12 0, tags := [], tagsLost := 0 }

/-- A car's record with the pace of another one written into it. -/
def Car.withPace (c d : Car) : Car :=
  { c with
    cls := d.cls
    applied := d.applied
    inDomain := d.inDomain
    requirements := d.requirements
    tags := d.tags
    tagsLost := d.tagsLost }

/-- Records that differ in their pace alone. -/
theorem eq_withPace_of_standing {c d : Car} (h : d.standing = c.standing) : d = c.withPace d := by
  have hself : d = d.standing.withPace d := rfl
  rwa [h] at hself

/-- The table as the pace leaves it. -/
def standings (s : State) : List Car := s.entry.table.map Car.standing

@[simp] theorem standing_addTag (t : Tag) (c : Car) : (c.addTag t).standing = c.standing := by
  unfold Car.addTag
  repeat' split
  all_goals rfl

@[simp] theorem standing_apply (k : Nat) (c : Car) : (c.apply k).standing = c.standing := by
  unfold Car.apply
  split <;> rfl

@[simp] theorem standing_wholeRequirements (c : Car) : (wholeRequirements s c).standing = c.standing :=
  List.foldlRecOn (motive := fun d : Car => d.standing = c.standing) _ _ rfl fun _ hd _ _ => hd

theorem standings_mapTable (f : Car → Car) (hf : ∀ c, (f c).standing = c.standing) :
    standings { s with entry.table := s.entry.table.map f } = standings s := by
  simp [standings, hf]

theorem standings_modifyCar (n : Nat) (f : Car → Car) (hf : ∀ c, (f c).standing = c.standing) :
    standings (modifyCar n f s) = standings s := by
  refine standings_mapTable s _ fun c => ?_
  split
  · exact hf c
  · rfl

@[simp] theorem standings_recomputeClass : standings (recomputeClass s) = standings s :=
  standings_mapTable (handDown _ s) _ (standing_apply _)

@[simp] theorem standings_setClass (n k : Nat) : standings (setClass n k s) = standings s := by
  unfold setClass
  split
  · rfl
  · split
    · rfl
    · rw [standings_recomputeClass]
      exact standings_modifyCar s n _ fun _ => rfl

@[simp] theorem standings_computeClass (n : Nat) : standings (computeClass n s) = standings s := by
  unfold computeClass
  split
  · rfl
  · rw [standings_setClass]
    split
    · rfl
    · exact standings_modifyCar s n _ (standing_addTag _)

@[simp] theorem standings_joinDomain (n : Nat) : standings (joinDomain n s) = standings s := by
  unfold joinDomain
  split
  · rfl
  · split
    · rfl
    · rw [standings_recomputeClass]
      exact standings_modifyCar s n _ fun _ => rfl

theorem insertEngages_entry (n : Nat) : (insertEngages n s).entry = s.entry := by
  unfold insertEngages
  split
  · rfl
  · split
    · rfl
    · exact List.foldlRecOn (motive := fun t : State => t.entry = s.entry) _ _ rfl fun _ ht _ _ => ht

@[simp] theorem standings_insertEngages (n : Nat) : standings (insertEngages n s) = standings s := by
  rw [standings, insertEngages_entry, standings]

@[simp] theorem standings_insertReleases (n : Nat) : standings (insertReleases n s) = standings s := by
  rw [standings, insertReleases_entry, standings]

theorem evaluateRun_entry : (evaluateRun s).entry = s.entry := by
  unfold evaluateRun
  repeat' split
  all_goals rfl

theorem evaluateRun_commanded : (evaluateRun s).tracker.commanded = s.tracker.commanded := by
  unfold evaluateRun
  repeat' split
  all_goals rfl

end Sys2Proof.Machine
end

section
/-! Rehearsals (R163, R164, R168 to R170): the tests of a REHEARSE, the phantom car that it builds, and how a run ends or is
abandoned. -/

namespace Sys2Proof.Machine

variable {l : Fin 4} {profile plan : Nat} {traced : Option Nat} {samples : List Sample} {c : Car} {s t : State} {p : Pos}

/-! ## The phantom car's removal -/

theorem phantomCar_phantom (h : phantomCar s = some c) : c.phantom = true := by
  rw [phantomCar] at h
  exact List.find?_some h

/-- Which car is the phantom is read from the roll. -/
theorem phantomCar_identity (s : State) : (phantomCar s).map Car.identity = (roll s).1.find? fun i => i.2.1 := by
  rw [phantomCar, roll, List.find?_map]
  rfl

theorem closeIfEmpty_of_ne (h : s.supervisor.tunnel ≠ .closing) : closeIfEmpty s = s := by simp [closeIfEmpty, h]

/-- The phantom car leaves no record and closes nothing (R164): its removal reports nothing. -/
theorem report_removePhantom (kind : RemovalKind) (hc : c.phantom = true) (ht : s.supervisor.tunnel ≠ .closing) :
    report (removeCar c kind s) = report s := by
  have hreport : report (evaluateRun (withoutCar c s)) = report s := (report_evaluateRun _).trans (report_withoutCar s c)
  obtain ⟨-, hsupervisor, -⟩ := (report_eq_iff _ _).mp hreport
  rw [← hsupervisor] at ht
  rw [removeCar_of_unrecorded kind (.inl hc), closeIfEmpty_of_ne ht, hreport]

/-- The number of a car that has been removed stands in no record of the table (R96). -/
theorem not_mem_carNumbers_removeCar (c : Car) (kind : RemovalKind) (s : State) : c.number ∉ carNumbers (removeCar c kind s) := by
  simp [carNumbers_eq, roll_removeCar]

/-! ## The summary (R170) -/

theorem summaryStatus_eq (st : ArchStatus) : summaryStatus st = if st = .pending ∨ st = .active then .skipped else st := by
  cases st <;> simp [summaryStatus]

theorem allArches_eq_finRange : allArches = List.finRange 12 := by decide

/-- The summary goes by the rehearsal record and the commanded class alone. -/
theorem summaryOf_eq (ending : RunEnding) (h : t.rehearsal = s.rehearsal) : summaryOf ending c t =
    { phantom := c.number, profile := s.rehearsal.profile.getD 0, samples := c.samples.length, plan := s.rehearsal.plan.getD 0,
      traced := s.rehearsal.traced, ending := ending, cls := c.cls, applied := c.applied.getD t.tracker.commanded,
      statuses := (List.finRange 12).filterMap fun a => (c.statuses.get a).map fun st =>
        (a, if st = .pending ∨ st = .active then .skipped else st),
      tags := c.tags, tagsLost := c.tagsLost, written := s.rehearsal.written } := by
  simp only [summaryOf, h, classApplied, allArches_eq_finRange, summaryStatus_eq]

/-! ## The end of a run (R168) -/

theorem rehearsalPitch_of_running (h : s.supervisor.tunnel ≠ .rehearsal ∨ phantomCar s = none ∨
    signedDiff p s.rehearsal.endPos < 0) : rehearsalPitch p s = s := by
  unfold rehearsalPitch
  split
  next hend =>
    simp only [Bool.and_eq_true, decide_eq_true_eq, reached] at hend
    obtain ⟨htunnel, hreached⟩ := hend
    have hnone : phantomCar s = none := by
      obtain h | h | h := h
      · exact absurd htunnel h
      · exact h
      · omega
    rw [hnone]
  · rfl

/-- On the pitch that reaches the end position the phantom is removed, then summarised, then the tunnel is CLOSED. -/
theorem rehearsalPitch_of_reached (htunnel : s.supervisor.tunnel = .rehearsal) (hc : phantomCar s = some c)
    (hp : 0 ≤ signedDiff p s.rehearsal.endPos) : rehearsalPitch p s =
      evaluateRun (changeTunnel .closed .rehearsalEnd 0 [] (endRehearsal .ended c (removeCar c .cleared s))) := by
  simp [rehearsalPitch, htunnel, reached, hp, hc]

theorem changeTunnel_endRehearsal (htunnel : s.supervisor.tunnel = .rehearsal) (ending : RunEnding) :
    changeTunnel .closed .rehearsalEnd 0 [] (endRehearsal ending c s) = { s with
      rehearsal.running := false
      rehearsal.last := some (summaryOf ending c s)
      supervisor.tunnel := .closed
      outbox := s.outbox ++ [⟨.rehearsal, none, putSummary (summaryOf ending c s)⟩,
        ⟨.halt, none, put8 1 ++ put8 6 ++ put8 1 ++ put8 9 ++ put16 0⟩] } := by
  simp only [changeTunnel, endRehearsal, notify, htunnel, List.append_assoc]
  rfl

/-! ## A run abandoned (R169) -/

/-- What the blocks do on entering HALTED, up to the removal of the phantom (R131). -/
def haltBlocks (number : Nat) (s : State) : State := forget (cancelCall (withdrawAll (markHalt number s)))

theorem roll_haltBlocks (number : Nat) (s : State) : roll (haltBlocks number s) = roll s := by
  rw [haltBlocks, roll_forget, roll_cancelCall, roll_withdrawAll, roll_markHalt]

theorem haltBlocks_journal (number : Nat) (s : State) : (haltBlocks number s).journal = s.journal := by
  rw [haltBlocks, forget_journal, cancelCall_journal, withdrawAll_journal, markHalt_journal]

theorem haltBlocks_reportGrows (number : Nat) (s : State) : ReportGrows s (haltBlocks number s) := by
  have hstopped : ReportGrows s (withdrawAll (markHalt number s)) :=
    .of_report ((report_withdrawAll _).trans (report_markHalt s number))
  exact (hstopped.trans (cancelCall_reportGrows _)).trans (.of_report (report_forget _))

/-- The part in HALTED with the summary made, before the blocks act on it (R130, R169). -/
def abandoned (cause : Cause) (c : Car) (s : State) : State :=
  let r := newHalt cause s
  let t := endRehearsal (.abandoned r.number) c s
  changeTunnel .halted .cause r.number (putCause r.first ++ put8 (tunnelStateCode r.resume))
    { t with supervisor.halt := some r, supervisor.haltCounter := r.number }

theorem takeCause_of_rehearsal (cause : Cause) (htunnel : s.supervisor.tunnel = .rehearsal) (hc : phantomCar s = some c) :
    takeCause cause s
      = evaluateRun (dropPhantom (haltBlocks (newHalt cause s).number (abandoned cause c s))) := by
  have habandon : abandonRehearsal (newHalt cause s).number s = endRehearsal (.abandoned (newHalt cause s).number) c s := by
    simp [abandonRehearsal, htunnel, hc]
  simp only [takeCause, htunnel, firstCause, habandon]
  rfl

/-- In HALTED the phantom that the roll names is removed (R131). -/
theorem dropPhantom_removes (hc : phantomCar s = some c) (hroll : roll t = roll s) :
    ∃ d, d.phantom = true ∧ d.number = c.number ∧ dropPhantom t = removeCar d .cleared t := by
  have hsame : (phantomCar t).map Car.identity = some c.identity := by
    rw [phantomCar_identity, hroll, ← phantomCar_identity, hc, Option.map_some]
  obtain ⟨d, hd, hidentity⟩ := Option.map_eq_some_iff.mp hsame
  exact ⟨d, phantomCar_phantom hd, congrArg Prod.fst hidentity, by rw [dropPhantom, hd]⟩

/-- A first cause in REHEARSAL: the summary is sent and kept, the phantom is gone, and the halt resumes to CLOSED (R130, R169). -/
theorem takeCause_abandons (cause : Cause) (htunnel : s.supervisor.tunnel = .rehearsal) (hc : phantomCar s = some c) :
    let t := takeCause cause s
    let m := summaryOf (.abandoned (nextHalt s.supervisor.haltCounter)) c s
    t.rehearsal = { s.rehearsal with
      running := false
      last := some m } ∧
    ⟨.rehearsal, none, putSummary m⟩ ∈ t.outbox ∧ c.number ∉ carNumbers t ∧ t.journal = s.journal ∧ t.trace = s.trace ∧
    t.supervisor.tunnel = .halted ∧ t.supervisor.halt.map (·.resume) = some .closed := by
  intro t m
  have hroll := roll_haltBlocks (newHalt cause s).number (abandoned cause c s)
  have hjournal := haltBlocks_journal (newHalt cause s).number (abandoned cause c s)
  have hblocks := haltBlocks_reportGrows (newHalt cause s).number (abandoned cause c s)
  have ht : t = _ := takeCause_of_rehearsal cause htunnel hc
  generalize haltBlocks _ _ = u at *
  obtain ⟨d, hphantom, hnumber, hdrop⟩ := dropPhantom_removes hc (hroll.trans rfl)
  rw [hdrop] at ht
  have hopen : u.supervisor.tunnel ≠ .closing := by
    rw [hblocks.supervisor]
    nofun
  have hgrown : ReportGrows (abandoned cause c s) t := by
    refine hblocks.trans (.of_report ?_)
    rw [ht, report_evaluateRun, report_removePhantom .cleared hphantom hopen]
  refine ⟨hgrown.rehearsal, ?_, ?_, ?_, hgrown.trace, ?_, ?_⟩
  · have hsent : ⟨.rehearsal, none, putSummary m⟩ ∈ (abandoned cause c s).outbox :=
      List.mem_append_left _ (List.mem_append_right _ (List.mem_singleton.mpr rfl))
    obtain ⟨notices, houtbox⟩ := hgrown.outbox
    exact houtbox ▸ List.mem_append_left notices hsent
  · rw [ht, ← hnumber, carNumbers, evaluateRun_entry]
    exact not_mem_carNumbers_removeCar d .cleared u
  · rw [ht, evaluateRun_journal, removeCar_journal_of_unrecorded .cleared (.inl hphantom), hjournal]
    rfl
  · rw [hgrown.supervisor]
    rfl
  · rw [hgrown.supervisor]
    simp [abandoned, changeTunnel, notify, newHalt, htunnel, resumeState]

/-! ## The tests of a REHEARSE (R163) -/

theorem archOf_eq_none_iff (n : Nat) : archOf n = none ↔ 12 ≤ n := by simp [archOf]

theorem archOf_eq_some_iff (n : Nat) (a : Fin 12) : archOf n = some a ↔ n = a.val := by
  unfold archOf
  split
  next => simp [Fin.ext_iff]
  next h =>
    have hlt := a.isLt
    simp only [reduceCtorEq, false_iff]
    omega

theorem profileOf_eq_none_iff (n : Nat) : profileOf n = none ↔ 2 ≤ n := by
  unfold profileOf
  split
  next h => simp [h]
  next h => simpa using not_lt.mp h

theorem rehearseUnknown_iff :
    ((profileOf profile).isNone || decide (24 ≤ plan) || traced.any fun a => (archOf a).isNone) = true ↔
      2 ≤ profile ∨ 24 ≤ plan ∨ ∃ a ∈ traced, 12 ≤ a := by
  simp only [Bool.or_eq_true, Option.isNone_iff_eq_none, profileOf_eq_none_iff, decide_eq_true_eq, or_assoc]
  cases traced <;> simp [archOf_eq_none_iff]

theorem rehearseNotReady_iff : (s.store.unconfigured || !layoutValid s || (testProfile profile s).isNone) = true ↔
    s.store.unconfigured = true ∨ layoutValid s = false ∨ testProfile profile s = none := by
  simp [or_assoc]

theorem rehearseBadTrace_iff : ((traced.bind archOf).any fun a => !followingArch a s) = true ↔
    ∃ a : Fin 12, traced = some a.val ∧ followingArch a s = false := by
  cases traced <;> simp [Option.any_eq_true, archOf_eq_some_iff]

theorem rehearse_refused {st : Status} (h : Ready l s) (ht : rehearseTests l profile plan traced s = some st) :
    Refused l 0x48 s (exec (.rehearse l profile plan traced) s) st :=
  request_refused (i := .rehearse l profile plan traced) h (run := rehearseRequest l profile plan traced)
    (by simp only [rehearseRequest, ht])

/-! ## The run that a REHEARSE begins (R164) -/

/-- The part with the phantom's record at the end of the table, before the pace and the arches learn of it. -/
def withPhantom (n plan : Nat) (samples : List Sample) (s : State) : State :=
  { s with
    entry.carCounter := stepOn 65535 n
    entry.table := s.entry.table ++ [newPhantom n plan samples s] }

theorem createPhantom_eq (n plan : Nat) (samples : List Sample) (s : State) : createPhantom n plan samples s
    = joinDomain n (insertReleases n (insertEngages n (computeClass n
        (modifyCar n (wholeRequirements (withPhantom n plan samples s)) (withPhantom n plan samples s))))) := rfl

theorem createPhantom_inert (n plan : Nat) (samples : List Sample) (s : State) : Inert s (createPhantom n plan samples s) := by
  have hjoined : Inert s (withPhantom n plan samples s) := .of ⟨rfl, rfl, rfl, rfl, rfl, rfl, rfl, rfl⟩
  rw [createPhantom_eq]
  exact ((((hjoined.trans (modifyCar_inert _ n _)).trans (computeClass_inert _ n)).trans (insertEngages_inert _ n)).trans
    (insertReleases_inert _ n)).trans (joinDomain_inert _ n)

theorem report_createPhantom (n plan : Nat) (samples : List Sample) (s : State) :
    report (createPhantom n plan samples s) = report s := by
  rw [createPhantom_eq, report_joinDomain, report_insertReleases, report_insertEngages, report_computeClass, report_modifyCar]
  rfl

/-- The conveyor does not start before the tunnel is in REHEARSAL. -/
theorem createPhantom_run (n plan : Nat) (samples : List Sample) (s : State) :
    (createPhantom n plan samples s).tracker.run = s.tracker.run := by
  have hcourse : course (createPhantom n plan samples s) = course (withPhantom n plan samples s) := by simp [createPhantom_eq]
  exact ((driveOf_eq_iff _ _).mp (driveOf_of_course hcourse)).1

/-- The phantom joins at the end of the table, and only the pace writes into its record afterwards. -/
theorem standings_createPhantom (n plan : Nat) (samples : List Sample) (s : State) :
    standings (createPhantom n plan samples s) = standings s ++ [(newPhantom n plan samples s).standing] := by
  rw [createPhantom_eq, standings_joinDomain, standings_insertReleases, standings_insertEngages, standings_computeClass,
    standings_modifyCar _ n _ (standing_wholeRequirements _)]
  exact List.map_append

/-- The part in REHEARSAL with its phantom car, before the class is recomputed and the conveyor runs. -/
def inRehearsal (profile plan : Nat) (traced : Option Nat) (samples : List Sample) (s : State) : State :=
  changeTunnel .rehearsal .rehearse 0 []
    (createPhantom (nextCarNumber s) plan samples (startRecord profile plan traced (nextCarNumber s) s))

theorem beginRehearsal_eq (profile plan : Nat) (traced : Option Nat) (samples : List Sample) (s : State) :
    beginRehearsal profile plan traced samples s = evaluateRun (recomputeClass (inRehearsal profile plan traced samples s)) := rfl

section Begun

variable (profile plan : Nat) (traced : Option Nat) (samples : List Sample)

theorem inRehearsal_inert (s : State) : Inert s (inRehearsal profile plan traced samples s) := by
  have hrecord : Inert s (startRecord profile plan traced (nextCarNumber s) s) := .of ⟨rfl, rfl, rfl, rfl, rfl, rfl, rfl, rfl⟩
  exact (hrecord.trans (createPhantom_inert _ plan samples _)).trans (changeTunnel_inert _ _ _ _ _)

theorem beginRehearsal_inert (s : State) : Inert s (beginRehearsal profile plan traced samples s) :=
  ((inRehearsal_inert profile plan traced samples s).trans (recomputeClass_inert _)).trans (evaluateRun_inert _)

/-- A change of the tunnel state adds to the report what it would add to the same report elsewhere. -/
theorem report_changeTunnel (new : TunnelState) (r : ChangeReason) (n : Nat) (more : List Byte) (h : report t = report s) :
    report (changeTunnel new r n more t) = report (changeTunnel new r n more s) := by
  obtain ⟨htrace, hsupervisor, hrehearsal, houtbox⟩ := (report_eq_iff s t).mp h
  simp only [report, changeTunnel, notify, htrace, hsupervisor, hrehearsal, houtbox]

theorem report_beginRehearsal (s : State) : report (beginRehearsal profile plan traced samples s)
    = report (changeTunnel .rehearsal .rehearse 0 [] (startRecord profile plan traced (nextCarNumber s) s)) := by
  rw [beginRehearsal_eq, report_evaluateRun, report_recomputeClass]
  exact report_changeTunnel _ _ _ _ (report_createPhantom _ _ _ _)

/-- The table holds the phantom as it was built, but for what the pace has written into it (R164, R68, R69). -/
theorem beginRehearsal_table (h : s.entry.table = []) : ∃ d, (beginRehearsal profile plan traced samples s).entry.table
    = [(newPhantom (nextCarNumber s) plan samples s).withPace d] := by
  have hstandings : standings (beginRehearsal profile plan traced samples s)
      = [(newPhantom (nextCarNumber s) plan samples s).standing] := by
    rw [beginRehearsal_eq, standings, evaluateRun_entry]
    refine (standings_recomputeClass _).trans ((standings_createPhantom _ _ _ _).trans ?_)
    simp only [standings, startRecord, h]
    rfl
  obtain ⟨d, htable, hd⟩ := List.map_eq_singleton_iff.mp hstandings
  exact ⟨d, htable.trans (congrArg (fun c => [c]) (eq_withPace_of_standing hd))⟩

/-- The conveyor runs with a full stall timer (R8, R10). -/
theorem beginRehearsal_runs (h : s.tracker.run = false) :
    (beginRehearsal profile plan traced samples s).tracker.run = true ∧
      (beginRehearsal profile plan traced samples s).tracker.stall = some (s.settings.site.stallTime * 100) := by
  have hwanted : runWanted (recomputeClass (inRehearsal profile plan traced samples s)) = true := (runWanted_iff _).mpr (.inr rfl)
  have hrun : (recomputeClass (inRehearsal profile plan traced samples s)).tracker.run = false := by
    have hcourse := course_recomputeClass (inRehearsal profile plan traced samples s)
    rw [((driveOf_eq_iff _ _).mp (driveOf_of_course hcourse)).1]
    exact (createPhantom_run _ _ _ _).trans h
  have hsettings : (inRehearsal profile plan traced samples s).settings = s.settings :=
    (inRehearsal_inert profile plan traced samples s).settings
  rw [beginRehearsal_eq, evaluateRun_of_wanted hwanted hrun]
  exact ⟨rfl, by rw [← hsettings]; rfl⟩

theorem domainClasses_recomputeClass (s : State) : domainClasses (recomputeClass s) = domainClasses s := by
  have hdomain (k : Nat) (c : Car) : (c.apply k).inDomain = c.inDomain := by
    unfold Car.apply
    split <;> rfl
  simp [domainClasses, recomputeClass, handDown, List.filter_map, Function.comp_def, hdomain, cls_apply]

theorem conveyorClass_congr (hclasses : domainClasses t = domainClasses s) (hsettings : t.settings = s.settings) :
    conveyorClass t = conveyorClass s := by
  have hfold (v : State) : conveyorClass v = (domainClasses v).foldl min v.settings.site.cap := rfl
  rw [hfold, hfold, hclasses, hsettings]

/-- The class on the select lines is the conveyor class with the phantom in the domain (R70). -/
theorem beginRehearsal_commanded (s : State) : (beginRehearsal profile plan traced samples s).tracker.commanded
    = conveyorClass (beginRehearsal profile plan traced samples s) := by
  have hclasses : domainClasses (beginRehearsal profile plan traced samples s)
      = domainClasses (inRehearsal profile plan traced samples s) := by
    rw [beginRehearsal_eq, domainClasses, evaluateRun_entry]
    exact domainClasses_recomputeClass _
  have hsettings : (beginRehearsal profile plan traced samples s).settings
      = (inRehearsal profile plan traced samples s).settings :=
    (beginRehearsal_inert profile plan traced samples s).settings.trans
      (inRehearsal_inert profile plan traced samples s).settings.symm
  rw [conveyorClass_congr hclasses hsettings, beginRehearsal_eq, evaluateRun_commanded, recomputeClass_commanded]

/-- The change of the tunnel state is the one notice of a REHEARSE (R124; log entries 13 and 15). -/
theorem beginRehearsal_outbox (hclosed : s.supervisor.tunnel = .closed) (hsilent : s.outbox = []) :
    (beginRehearsal profile plan traced samples s).outbox
      = [⟨.halt, none, put8 1 ++ put8 1 ++ put8 6 ++ put8 5 ++ put16 0⟩] := by
  obtain ⟨-, -, -, houtbox⟩ := (report_eq_iff _ _).mp (report_beginRehearsal profile plan traced samples s)
  rw [houtbox]
  simp only [changeTunnel, notify, startRecord, hclosed, hsilent]
  rfl

/-- A REHEARSE that passes is answered with the phantom's number and class, its samples and the end position (R164). -/
theorem rehearse_taken (h : Ready l s) (htests : rehearseTests l profile plan traced s = none)
    (hsamples : testProfile profile s = some samples)
    (htable : (beginRehearsal profile plan traced samples s).entry.table = [c]) (hc : c.phantom = true) :
    Answered l 0x48 s (exec (.rehearse l profile plan traced) s) .ok
      (put16 c.number ++ put8 c.cls ++ put8 samples.length ++ putPos (advance s.tracker.pos s.settings.site.exitOffset))
      (beginRehearsal profile plan traced samples s) := by
  obtain ⟨-, -, hrehearsal, -⟩ := (report_eq_iff _ _).mp (report_beginRehearsal profile plan traced samples s)
  have hend : (beginRehearsal profile plan traced samples s).rehearsal.endPos
      = advance s.tracker.pos s.settings.site.exitOffset := congrArg (·.endPos) hrehearsal
  have hfound : phantomCar (beginRehearsal profile plan traced samples s) = some c := by simp [phantomCar, htable, hc]
  refine request_taken (i := .rehearse l profile plan traced) h (run := rehearseRequest l profile plan traced) ?_
    (beginRehearsal_inert profile plan traced samples s).raised
  simp only [rehearseRequest, htests, hsamples, rehearseBody, hfound, hend]

end Begun

theorem get_initialStatuses (layouts : Vector Layout 12) (services : List ServicePress) (a : Fin 12) :
    (initialStatuses layouts services).get a = if (layouts.get a).kind ≠ .unused ∧
      (∃ x ∈ services, x.service = (layouts.get a).service) then some .pending else none := by
  rw [initialStatuses, get_tabulate]
  exact if_congr (by simp) rfl rfl

/-! ## The statement -/

/-- Settles O50: the run's end and its abandonment, then the tests of a REHEARSE, then the run that it begins. -/
theorem rehearseBuildsThePhantomCar : Obligations.RehearseBuildsThePhantomCar := by
  refine ⟨fun p s => rehearsalPitch_of_running, ?_, ?_⟩
  · intro c s htunnel hc summary
    refine ⟨fun p hp => ?_, fun cause => ?_⟩
    · intro gone m
      have hreport : report gone = report s := report_removePhantom .cleared (phantomCar_phantom hc) (by simp [htunnel])
      obtain ⟨-, hsupervisor, hrehearsal, houtbox⟩ := (report_eq_iff _ _).mp hreport
      have hsummary : summaryOf .ended c gone = m := summaryOf_eq .ended hrehearsal
      have hrun : gone.supervisor.tunnel = .rehearsal := by rw [hsupervisor, htunnel]
      rw [rehearsalPitch_of_reached htunnel hc hp, changeTunnel_endRehearsal hrun, hsummary, houtbox]
    · intro t number m
      have hsummary : summaryOf (.abandoned number) c s = m := summaryOf_eq _ rfl
      exact hsummary ▸ takeCause_abandons cause htunnel hc
  · intro l profile plan traced s h o unknown notReady badTrace
    have hunknown : _ ↔ unknown := rehearseUnknown_iff
    have hdenied : (!permitted l .operate s) = true ↔ permitted l .operate s = false := by
      rw [Bool.not_eq_true']
    have hstate : (s.supervisor.tunnel != .closed) = true ↔ s.supervisor.tunnel ≠ .closed := bne_iff_ne
    have hnotReady : _ ↔ notReady := rehearseNotReady_iff
    have hbadTrace : _ ↔ badTrace := rehearseBadTrace_iff
    have refused (st : Status) (ht : rehearseTests l profile plan traced s = some st) : Refused l 0x48 s o st :=
      rehearse_refused h ht
    refine ⟨fun hp => refused _ (firstFailed_here hdenied hp), fun hp => ?_⟩
    have hpermitted : ¬ permitted l .operate s = false := by simp [hp]
    refine ⟨fun hu => ?_, fun hu hs => ?_, fun hu hs hn => ?_, fun hu hs hn hb => ?_,
      fun hu hs hn hb htable hrun samples hsamples => ?_⟩
    · exact refused _ (firstFailed_after hdenied hpermitted <| firstFailed_here hunknown hu)
    · exact refused _ (firstFailed_after hdenied hpermitted <| firstFailed_after hunknown hu <| firstFailed_here hstate hs)
    · exact refused _ (firstFailed_after hdenied hpermitted <| firstFailed_after hunknown hu <|
        firstFailed_after hstate (not_not.mpr hs) <| firstFailed_here hnotReady hn)
    · exact refused _ (firstFailed_after hdenied hpermitted <| firstFailed_after hunknown hu <|
        firstFailed_after hstate (not_not.mpr hs) <| firstFailed_after hnotReady hn <| firstFailed_here hbadTrace hb)
    · intro n endPos
      have htests : rehearseTests l profile plan traced s = none :=
        firstFailed_after hdenied hpermitted <| firstFailed_after hunknown hu <| firstFailed_after hstate (not_not.mpr hs) <|
          firstFailed_after hnotReady hn <| firstFailed_after hbadTrace hb rfl
      obtain ⟨d, hphantom⟩ := beginRehearsal_table profile plan traced samples htable
      have hanswered := rehearse_taken profile plan traced samples h htests hsamples hphantom rfl
      obtain ⟨htrace, hsupervisor, hrehearsal, -⟩ :=
        (report_eq_iff _ _).mp (report_beginRehearsal profile plan traced samples s)
      obtain ⟨hruns, hstall⟩ := beginRehearsal_runs profile plan traced samples hrun
      obtain ⟨⟨-, -, hsilent⟩, -⟩ := h
      exact ⟨_, _, hphantom, hanswered, rfl, rfl, rfl, Nat.cast_add _ _, get_initialStatuses _ _,
        congrArg (·.tunnel) hsupervisor, hruns, hstall, beginRehearsal_commanded profile plan traced samples s, htrace,
        hrehearsal, beginRehearsal_outbox profile plan traced samples hs hsilent⟩

end Sys2Proof.Machine
end
